-- ==== Sys2Proof/Word.lean ====
section
/-! DEFINITION. The two word widths of the block: bytes and 16-bit words (rules R7, R9; 00_scope.md). -/

namespace Sys2Proof

/-- An 8-bit value: a register, a byte of memory, an opcode byte. -/
abbrev Byte := BitVec 8

/-- A 16-bit value: a register pair, SP, PC, an address. -/
abbrev Word := BitVec 16

end Sys2Proof
end

