-- ==== Sys2Proof/Machine/Bits.lean ====
section
/-! DEFINITION. Bit fields, byte order and sign extension (rules R9, R10, R51; 00_scope.md, 20_memory.md). -/

namespace Sys2Proof

/-- `v[15:8]`. -/
def hiByte (v : Word) : Byte := BitVec.ofNat 8 (v.toNat / 256)

/-- `v[7:0]`. -/
def loByte (v : Word) : Byte := BitVec.ofNat 8 (v.toNat % 256)

/-- `hi:lo`, that is `hi * 256 + lo` (rule R9). -/
def joinBytes (hi lo : Byte) : Word := BitVec.ofNat 16 (hi.toNat * 256 + lo.toNat)

/-- `sext_8(v)` brought to 16 bits (rule R10). -/
def sext8 (v : Byte) : Word := v.signExtend 16

/-- `zext_16(v)` (rule R10). -/
def zext16 (v : Byte) : Word := v.setWidth 16

/-- `b2n(x)` (rule R10). -/
def b2n (x : Bool) : Nat := if x then 1 else 0

end Sys2Proof
end

