-- ==== Sys2Proof/Config.lean ====
section
/-! DEFINITION. The named parameters of rule R8 (00_scope.md) with their defaults, and the parameter BUS: how the bus
operations act on what stands behind them (20_memory.md rules R39 to R45; D28). The spec leaves no value free, so there is
no free value here. -/

namespace Sys2Proof

/-- `BIT_HL_TICKS`: the total ticks of `BIT b,(HL)`, 12 or 16 (rules R8, R199). -/
inductive BitHlTicks where
  | twelve
  | sixteen
  deriving DecidableEq, Repr

/-- The parameters of rule R8. They are plain data in the machine's state (log 8): a statement about
every state is a statement about every value of the parameters. -/
structure Config where
  /-- `HALT_BUG` (rule R175). -/
  haltBugEnabled : Bool
  /-- `HALT_IDLE_TICKS` (rule R75). -/
  haltIdleTicks : Nat
  /-- `INT_EXTRA_DELAY_M` (rule R208). -/
  intExtraDelayM : Nat
  /-- `BIT_HL_TICKS` (rule R199). -/
  bitHlTicks : BitHlTicks
  /-- `BOOT_SKIP` (rule R222). -/
  bootSkip : Bool
  deriving DecidableEq, Repr

/-- The defaults of rule R8. -/
def Config.default : Config where
  haltBugEnabled := true
  haltIdleTicks := 4
  intExtraDelayM := 6
  bitHlTicks := .sixteen
  bootSkip := false

end Sys2Proof

namespace Sys2Proof.Machine

/-- The five interrupt sources, highest priority first (rule R204). -/
inductive IntSource where
  | vblank
  | lcdstat
  | timer
  | serial
  | joypad
  deriving DecidableEq, Repr

/-- A number computed from what stands behind the bus and from the call in progress; a truth value is 1 or 0. -/
inductive BusTerm where
  | lit (n : Nat)
  /-- The call's address; 0 in a `step()`. -/
  | addr
  /-- The byte of a `store_byte`; 0 in any other call. -/
  | val
  /-- The byte of memory at an address modulo 65536. -/
  | byte (a : BusTerm)
  /-- A device register; 0 where the bus has none of that number. -/
  | reg (r : BusTerm)
  /-- Whether an interrupt condition is pending. -/
  | pending (it : IntSource)
  /-- Whether the bus's mask enables a source. -/
  | enabled (it : IntSource)
  | add (x y : BusTerm)
  | sub (x y : BusTerm)
  | mul (x y : BusTerm)
  | div (x y : BusTerm)
  | mod (x y : BusTerm)
  | and (x y : BusTerm)
  | lt (x y : BusTerm)
  | eq (x y : BusTerm)
  /-- `t` where `c` is not 0, else `e`. -/
  | cond (c t e : BusTerm)
  deriving DecidableEq, Repr

/-- What a call does behind the bus. An interrupt condition is raised in a `step()` alone (`BusModel.raises`) and cleared
by `next_interrupt_ack()` alone, so neither stands here (rule R205). -/
inductive BusEffect where
  /-- The byte at an address modulo 65536 becomes a value modulo 256. -/
  | poke (a v : BusTerm)
  /-- A device register takes a value; nothing where the bus has none of that number. -/
  | put (r v : BusTerm)
  | enable (it : IntSource)
  | disable (it : IntSource)
  deriving DecidableEq, Repr

/-- Effects, in order, where the guard is not 0. -/
structure BusRule where
  guard : BusTerm
  effects : List BusEffect
  deriving DecidableEq, Repr

/-- The parameter BUS (rules R8, R39; D28; log 1): what `fetch_byte`, `store_byte` and `step()` answer and do. What
`next_interrupt()` and `next_interrupt_ack()` do is fixed by rules R43, R44 and R205 over the pending conditions and the
bus's mask, which the other three move. -/
structure BusModel where
  /-- What `fetch_byte(addr)` answers, modulo 256 (rule R40). -/
  answer : BusTerm
  /-- What a `fetch_byte` does behind the bus, after its answer (rule R228, "a read side effect"). -/
  onFetch : List BusRule
  /-- What a `store_byte` does behind the bus: "RAM update, a register with side effects, nothing for ROM" (rule R41). -/
  onStore : List BusRule
  /-- What a `step()` does to the peripherals (rule R42). -/
  onStep : List BusRule
  /-- The conditions a `step()` raises after that, each where its term is not 0 (rules R42, R205). -/
  raises : List (BusTerm × IntSource)
  deriving DecidableEq, Repr

/-- Plain RAM over the whole space: "the oracle returns the last byte stored" (rule R40), and the test fixture of D28. -/
def BusModel.ram : BusModel where
  answer := .byte .addr
  onFetch := []
  onStore := [⟨.lit 1, [.poke .addr .val]⟩]
  onStep := []
  raises := []

end Sys2Proof.Machine
end

