-- ==== Sys2Proof/Machine/State.lean ====
section
/-! DEFINITION. The machine's state as plain data (10_state.md), the bus behind its five operations
(20_memory.md rules R39 to R45), the fault and the refusal, and the state after reset (rules R37, R222). -/

namespace Sys2Proof.Machine

/-- The seven 8-bit registers (rule R18). -/
structure Regs where
  a : Byte
  b : Byte
  c : Byte
  d : Byte
  e : Byte
  h : Byte
  l : Byte
  deriving DecidableEq, Repr

/-- The four flags Z, N, Hf and Cf (rule R23). -/
structure Flags where
  z : Bool
  n : Bool
  h : Bool
  c : Bool
  deriving DecidableEq, Repr

/-- A set of interrupt sources, one Boolean each. -/
structure IntSet where
  vblank : Bool
  lcdstat : Bool
  timer : Bool
  serial : Bool
  joypad : Bool
  deriving DecidableEq, Repr

/-- The set without a member. -/
def IntSet.empty : IntSet := ⟨false, false, false, false, false⟩

/-- What the world outside brings to a peripheral during one bus `step()` (rules R42, R205; log 2): it raises an interrupt
condition, the bus's mask changes, an address comes to read as another byte, or a device register takes another value. -/
inductive BusEvent where
  | raise (it : IntSource)
  | enable (it : IntSource)
  | disable (it : IntSource)
  | poke (addr : Word) (v : Byte)
  | put (r v : Nat)
  deriving DecidableEq, Repr

/-- Memory: address and byte, addresses strictly rising, no byte listed that an unlisted address reads as
anyway (`Memory.wf`). -/
abbrev Memory := List Host.Cell

/-- The bus and what stands behind it (rules R8, R39; log 1): its operations, and the state they act on, that is the memory,
the device registers, the pending interrupt conditions, the bus's own enable mask, and what the outside will bring at each
coming `step()`. -/
structure Bus where
  /-- The operations. A parameter: nothing changes it (rule R8). -/
  model : BusModel
  mem : Memory
  /-- The device registers, as many as the list holds. -/
  regs : List Nat
  pending : IntSet
  enabled : IntSet
  inbox : List (List BusEvent)
  deriving DecidableEq, Repr

/-- One use of the bus by the block, with the bus's answer (rule R39). -/
inductive BusOp where
  /-- `fetch_byte(addr)` answered `v`. -/
  | fetchByte (addr : Word) (v : Byte)
  /-- `store_byte(addr, v)`. -/
  | storeByte (addr : Word) (v : Byte)
  /-- `step()`: one system-clock tick. -/
  | step
  /-- `next_interrupt()` answered `it`. -/
  | nextInterrupt (it : Option IntSource)
  /-- `next_interrupt_ack()` answered `it`. -/
  | nextInterruptAck (it : Option IntSource)
  deriving DecidableEq, Repr

/-- The two kinds of fatal outcome (rule R213). -/
inductive FatalKind where
  | decodeFailure
  | stop
  deriving DecidableEq, Repr

/-- A fatal record `(kind, opcode, pc)` (rules R14, R32): `pc` is the address of the opcode byte. -/
structure FatalRecord where
  kind : FatalKind
  opcode : Byte
  pc : Word
  deriving DecidableEq, Repr

/-- The whole state. `opaddr` is rule R35's transient, held here so that a meaning can read it (log 6);
`trace` is the model's own record of the current step's bus operations, oldest first (log 7); `cfg` holds
the parameters of rule R8 (log 8). -/
@[ext]
structure State where
  /-- A, B, C, D, E, H, L (rule R18). -/
  regs : Regs
  /-- Z, N, Hf, Cf (rule R23). -/
  flags : Flags
  /-- SP (rule R21). -/
  sp : Word
  /-- PC (rule R22). -/
  pc : Word
  /-- IME (rule R27). -/
  ime : Bool
  /-- PEND (rule R28). -/
  pend : Bool
  /-- HALTED (rule R30). -/
  halted : Bool
  /-- HALTBUG (rule R31). -/
  haltBug : Bool
  /-- FATAL (rule R32). -/
  fatal : Option FatalRecord
  /-- The cycle accumulator `cyc` (rule R33); after a step, the step's count. -/
  cyc : Nat
  /-- The address the current opcode was fetched from (rule R35). -/
  opaddr : Word
  /-- The parameters (rule R8). -/
  cfg : Config
  /-- The bus (rule R39). -/
  bus : Bus
  /-- The bus operations of the current step, oldest first. -/
  trace : List BusOp
  deriving DecidableEq, Repr

/-- Why the machine stops. -/
inductive Fault where
  /-- Raised by `step` alone, when FATAL holds a record: "While it is not `none` the block takes no further
  step" (rules R32, R73, R213). Safe: the spec's machine stops here too. -/
  | fatalRecorded (r : FatalRecord)
  deriving DecidableEq, Repr

/-- Why an instruction has no meaning. -/
inductive Refusal where
  /-- An instruction not modelled yet, raised by an arm of `exec`. Safe. No arm of `exec` uses it. -/
  | notModelled (mnemonic : String)
  deriving DecidableEq, Repr

/-- The outcome of a step or of a meaning. -/
abbrev Outcome := Host.Outcome State Fault Refusal

/-- The bus a program meets where none is given: plain RAM with nothing listed, no device register, no condition pending,
none enabled, nothing coming from outside (DESIGN CHOICE, logs 1 and 4: BUS has no default, rule R8). -/
def Bus.reset : Bus where
  model := .ram
  mem := []
  regs := []
  pending := .empty
  enabled := .empty
  inbox := []

/-- Cold boot (rules R37, R221) under the parameters `cfg` on the bus `bus`, whatever they are: "Reset does not touch memory
or the bus's peripherals". -/
def State.coldBoot (cfg : Config) (bus : Bus) : State where
  regs := ⟨0x00, 0x00, 0x00, 0x00, 0x00, 0x00, 0x00⟩
  flags := ⟨false, false, false, false⟩
  sp := 0xFFFE
  pc := 0x0000
  ime := true
  pend := false
  halted := false
  haltBug := false
  fatal := none
  cyc := 0
  opaddr := 0x0000
  cfg := cfg
  bus := bus
  trace := []

/-- The state that follows the console's boot program (rule R222). -/
def State.postBoot (cfg : Config) (bus : Bus) : State :=
  { State.coldBoot cfg bus with
    regs := { a := 0x01, b := 0x00, c := 0x13, d := 0x00, e := 0xD8, h := 0x01, l := 0x4D }
    flags := { z := true, n := false, h := true, c := true }
    pc := 0x0100 }

/-- Reset under the parameters of rule R8, BUS among them: `BOOT_SKIP` selects the start state (rules R221, R222). -/
def State.resetWith (cfg : Config) (bus : Bus) : State :=
  if cfg.bootSkip then .postBoot cfg bus else .coldBoot cfg bus

/-- Reset with the default parameters (rule R8) on the bus of log 4: the cold boot of rule R37. -/
def State.reset : State := .resetWith .default .reset

end Sys2Proof.Machine
end

