-- ==== Sys2Proof/Syntax.lean ====
section
/-! DEFINITION. The instructions: one constructor for each of the 512 rows of opcode_table.json (rules R66, R67,
R70; 30_encoding.md), its immediate operands as arguments, and the operand names of rules R60 to R64.

Names follow the table's mnemonics: `At` stands for parentheses (`ldAtHlB` is LD (HL),B), `N`, `Nn` and `E` for
the immediates n, nn and e. -/

namespace Sys2Proof

/-- The seven 8-bit registers as operands (rule R60, every index but 6). -/
inductive Reg8 where
  | b | c | d | e | h | l | a
  deriving DecidableEq, Repr

/-- An 8-bit operand by its index: a register, or index 6, the byte at address HL (rule R60). -/
inductive Operand8 where
  | reg (r : Reg8)
  | atHl
  deriving DecidableEq, Repr

/-- The pairs of the "rr" set (rule R61). -/
inductive Pair where
  | bc | de | hl | sp
  deriving DecidableEq, Repr

/-- The pairs of the "qq" set, used by PUSH and POP (rule R61). -/
inductive StackPair where
  | bc | de | hl | af
  deriving DecidableEq, Repr

/-- The branch conditions (rule R62). -/
inductive Cond where
  | nz | z | nc | c
  deriving DecidableEq, Repr

/-- The operations of the ALU groups (rule R63). -/
inductive AluOp where
  | add | adc | sub | sbc | and | xor | or | cp
  deriving DecidableEq, Repr

/-- The rotates and shifts of the CB group x = 0 (rule R64). -/
inductive RotOp where
  | rlc | rrc | rl | rr | sla | sra | swap | srl
  deriving DecidableEq, Repr

/-- The instructions. Those with an immediate operand come first (the runtime limits the place of a constructor with
arguments), otherwise they stand in the table's order. -/
inductive Instr where
  | ldBcNn (nn : Word)  -- 01: LD BC,nn (R109)
  | ldBN (n : Byte)  -- 06: LD B,n (R91)
  | ldAtNnSp (nn : Word)  -- 08: LD (nn),SP (R110)
  | ldCN (n : Byte)  -- 0E: LD C,n (R91)
  | ldDeNn (nn : Word)  -- 11: LD DE,nn (R109)
  | ldDN (n : Byte)  -- 16: LD D,n (R91)
  | jrE (e : Byte)  -- 18: JR e (R165)
  | ldEN (n : Byte)  -- 1E: LD E,n (R91)
  | jrNzE (e : Byte)  -- 20: JR NZ,e (R166)
  | ldHlNn (nn : Word)  -- 21: LD HL,nn (R109)
  | ldHN (n : Byte)  -- 26: LD H,n (R91)
  | jrZE (e : Byte)  -- 28: JR Z,e (R166)
  | ldLN (n : Byte)  -- 2E: LD L,n (R91)
  | jrNcE (e : Byte)  -- 30: JR NC,e (R166)
  | ldSpNn (nn : Word)  -- 31: LD SP,nn (R109)
  | ldAtHlN (n : Byte)  -- 36: LD (HL),n (R94)
  | jrCE (e : Byte)  -- 38: JR C,e (R166)
  | ldAN (n : Byte)  -- 3E: LD A,n (R91)
  | jpNzNn (nn : Word)  -- C2: JP NZ,nn (R163)
  | jpNn (nn : Word)  -- C3: JP nn (R162)
  | callNzNn (nn : Word)  -- C4: CALL NZ,nn (R168)
  | addN (n : Byte)  -- C6: ADD A,n (R121)
  | jpZNn (nn : Word)  -- CA: JP Z,nn (R163)
  | callZNn (nn : Word)  -- CC: CALL Z,nn (R168)
  | callNn (nn : Word)  -- CD: CALL nn (R167)
  | adcN (n : Byte)  -- CE: ADC A,n (R124)
  | jpNcNn (nn : Word)  -- D2: JP NC,nn (R163)
  | callNcNn (nn : Word)  -- D4: CALL NC,nn (R168)
  | subN (n : Byte)  -- D6: SUB n (R127)
  | jpCNn (nn : Word)  -- DA: JP C,nn (R163)
  | callCNn (nn : Word)  -- DC: CALL C,nn (R168)
  | sbcN (n : Byte)  -- DE: SBC A,n (R130)
  | ldhAtNA (n : Byte)  -- E0: LDH (n),A (R102)
  | andN (n : Byte)  -- E6: AND n (R134)
  | addSpE (e : Byte)  -- E8: ADD SP,e (R160)
  | ldAtNnA (nn : Word)  -- EA: LD (nn),A (R100)
  | xorN (n : Byte)  -- EE: XOR n (R137)
  | ldhAAtN (n : Byte)  -- F0: LDH A,(n) (R101)
  | orN (n : Byte)  -- F6: OR n (R140)
  | ldHlSpE (e : Byte)  -- F8: LD HL,SP+e (R116)
  | ldAAtNn (nn : Word)  -- FA: LD A,(nn) (R99)
  | cpN (n : Byte)  -- FE: CP n (R143)
  | nop  -- 00: NOP (R173)
  | ldAtBcA  -- 02: LD (BC),A (R97)
  | incBc  -- 03: INC BC (R158)
  | incB  -- 04: INC B (R144)
  | decB  -- 05: DEC B (R146)
  | rlca  -- 07: RLCA (R153)
  | addHlBc  -- 09: ADD HL,BC (R157)
  | ldAAtBc  -- 0A: LD A,(BC) (R95)
  | decBc  -- 0B: DEC BC (R159)
  | incC  -- 0C: INC C (R144)
  | decC  -- 0D: DEC C (R146)
  | rrca  -- 0F: RRCA (R155)
  | stop  -- 10: STOP (R174)
  | ldAtDeA  -- 12: LD (DE),A (R98)
  | incDe  -- 13: INC DE (R158)
  | incD  -- 14: INC D (R144)
  | decD  -- 15: DEC D (R146)
  | rla  -- 17: RLA (R154)
  | addHlDe  -- 19: ADD HL,DE (R157)
  | ldAAtDe  -- 1A: LD A,(DE) (R96)
  | decDe  -- 1B: DEC DE (R159)
  | incE  -- 1C: INC E (R144)
  | decE  -- 1D: DEC E (R146)
  | rra  -- 1F: RRA (R156)
  | ldAtHlIncA  -- 22: LD (HL+),A (R105)
  | incHl  -- 23: INC HL (R158)
  | incH  -- 24: INC H (R144)
  | decH  -- 25: DEC H (R146)
  | daa  -- 27: DAA (R148)
  | addHlHl  -- 29: ADD HL,HL (R157)
  | ldAAtHlInc  -- 2A: LD A,(HL+) (R106)
  | decHl  -- 2B: DEC HL (R159)
  | incL  -- 2C: INC L (R144)
  | decL  -- 2D: DEC L (R146)
  | cpl  -- 2F: CPL (R149)
  | ldAtHlDecA  -- 32: LD (HL-),A (R107)
  | incSp  -- 33: INC SP (R158)
  | incAtHl  -- 34: INC (HL) (R145)
  | decAtHl  -- 35: DEC (HL) (R147)
  | scf  -- 37: SCF (R150)
  | addHlSp  -- 39: ADD HL,SP (R157)
  | ldAAtHlDec  -- 3A: LD A,(HL-) (R108)
  | decSp  -- 3B: DEC SP (R159)
  | incA  -- 3C: INC A (R144)
  | decA  -- 3D: DEC A (R146)
  | ccf  -- 3F: CCF (R151)
  | ldBB  -- 40: LD B,B (R90)
  | ldBC  -- 41: LD B,C (R90)
  | ldBD  -- 42: LD B,D (R90)
  | ldBE  -- 43: LD B,E (R90)
  | ldBH  -- 44: LD B,H (R90)
  | ldBL  -- 45: LD B,L (R90)
  | ldBAtHl  -- 46: LD B,(HL) (R92)
  | ldBA  -- 47: LD B,A (R90)
  | ldCB  -- 48: LD C,B (R90)
  | ldCC  -- 49: LD C,C (R90)
  | ldCD  -- 4A: LD C,D (R90)
  | ldCE  -- 4B: LD C,E (R90)
  | ldCH  -- 4C: LD C,H (R90)
  | ldCL  -- 4D: LD C,L (R90)
  | ldCAtHl  -- 4E: LD C,(HL) (R92)
  | ldCA  -- 4F: LD C,A (R90)
  | ldDB  -- 50: LD D,B (R90)
  | ldDC  -- 51: LD D,C (R90)
  | ldDD  -- 52: LD D,D (R90)
  | ldDE  -- 53: LD D,E (R90)
  | ldDH  -- 54: LD D,H (R90)
  | ldDL  -- 55: LD D,L (R90)
  | ldDAtHl  -- 56: LD D,(HL) (R92)
  | ldDA  -- 57: LD D,A (R90)
  | ldEB  -- 58: LD E,B (R90)
  | ldEC  -- 59: LD E,C (R90)
  | ldED  -- 5A: LD E,D (R90)
  | ldEE  -- 5B: LD E,E (R90)
  | ldEH  -- 5C: LD E,H (R90)
  | ldEL  -- 5D: LD E,L (R90)
  | ldEAtHl  -- 5E: LD E,(HL) (R92)
  | ldEA  -- 5F: LD E,A (R90)
  | ldHB  -- 60: LD H,B (R90)
  | ldHC  -- 61: LD H,C (R90)
  | ldHD  -- 62: LD H,D (R90)
  | ldHE  -- 63: LD H,E (R90)
  | ldHH  -- 64: LD H,H (R90)
  | ldHL  -- 65: LD H,L (R90)
  | ldHAtHl  -- 66: LD H,(HL) (R92)
  | ldHA  -- 67: LD H,A (R90)
  | ldLB  -- 68: LD L,B (R90)
  | ldLC  -- 69: LD L,C (R90)
  | ldLD  -- 6A: LD L,D (R90)
  | ldLE  -- 6B: LD L,E (R90)
  | ldLH  -- 6C: LD L,H (R90)
  | ldLL  -- 6D: LD L,L (R90)
  | ldLAtHl  -- 6E: LD L,(HL) (R92)
  | ldLA  -- 6F: LD L,A (R90)
  | ldAtHlB  -- 70: LD (HL),B (R93)
  | ldAtHlC  -- 71: LD (HL),C (R93)
  | ldAtHlD  -- 72: LD (HL),D (R93)
  | ldAtHlE  -- 73: LD (HL),E (R93)
  | ldAtHlH  -- 74: LD (HL),H (R93)
  | ldAtHlL  -- 75: LD (HL),L (R93)
  | halt  -- 76: HALT (R175)
  | ldAtHlA  -- 77: LD (HL),A (R93)
  | ldAB  -- 78: LD A,B (R90)
  | ldAC  -- 79: LD A,C (R90)
  | ldAD  -- 7A: LD A,D (R90)
  | ldAE  -- 7B: LD A,E (R90)
  | ldAH  -- 7C: LD A,H (R90)
  | ldAL  -- 7D: LD A,L (R90)
  | ldAAtHl  -- 7E: LD A,(HL) (R92)
  | ldAA  -- 7F: LD A,A (R90)
  | addB  -- 80: ADD A,B (R119)
  | addC  -- 81: ADD A,C (R119)
  | addD  -- 82: ADD A,D (R119)
  | addE  -- 83: ADD A,E (R119)
  | addH  -- 84: ADD A,H (R119)
  | addL  -- 85: ADD A,L (R119)
  | addAtHl  -- 86: ADD A,(HL) (R120)
  | addA  -- 87: ADD A,A (R119)
  | adcB  -- 88: ADC A,B (R122)
  | adcC  -- 89: ADC A,C (R122)
  | adcD  -- 8A: ADC A,D (R122)
  | adcE  -- 8B: ADC A,E (R122)
  | adcH  -- 8C: ADC A,H (R122)
  | adcL  -- 8D: ADC A,L (R122)
  | adcAtHl  -- 8E: ADC A,(HL) (R123)
  | adcA  -- 8F: ADC A,A (R122)
  | subB  -- 90: SUB B (R125)
  | subC  -- 91: SUB C (R125)
  | subD  -- 92: SUB D (R125)
  | subE  -- 93: SUB E (R125)
  | subH  -- 94: SUB H (R125)
  | subL  -- 95: SUB L (R125)
  | subAtHl  -- 96: SUB (HL) (R126)
  | subA  -- 97: SUB A (R125)
  | sbcB  -- 98: SBC A,B (R128)
  | sbcC  -- 99: SBC A,C (R128)
  | sbcD  -- 9A: SBC A,D (R128)
  | sbcE  -- 9B: SBC A,E (R128)
  | sbcH  -- 9C: SBC A,H (R128)
  | sbcL  -- 9D: SBC A,L (R128)
  | sbcAtHl  -- 9E: SBC A,(HL) (R129)
  | sbcA  -- 9F: SBC A,A (R128)
  | andB  -- A0: AND B (R132)
  | andC  -- A1: AND C (R132)
  | andD  -- A2: AND D (R132)
  | andE  -- A3: AND E (R132)
  | andH  -- A4: AND H (R132)
  | andL  -- A5: AND L (R132)
  | andAtHl  -- A6: AND (HL) (R133)
  | andA  -- A7: AND A (R132)
  | xorB  -- A8: XOR B (R135)
  | xorC  -- A9: XOR C (R135)
  | xorD  -- AA: XOR D (R135)
  | xorE  -- AB: XOR E (R135)
  | xorH  -- AC: XOR H (R135)
  | xorL  -- AD: XOR L (R135)
  | xorAtHl  -- AE: XOR (HL) (R136)
  | xorA  -- AF: XOR A (R135)
  | orB  -- B0: OR B (R138)
  | orC  -- B1: OR C (R138)
  | orD  -- B2: OR D (R138)
  | orE  -- B3: OR E (R138)
  | orH  -- B4: OR H (R138)
  | orL  -- B5: OR L (R138)
  | orAtHl  -- B6: OR (HL) (R139)
  | orA  -- B7: OR A (R138)
  | cpB  -- B8: CP B (R141)
  | cpC  -- B9: CP C (R141)
  | cpD  -- BA: CP D (R141)
  | cpE  -- BB: CP E (R141)
  | cpH  -- BC: CP H (R141)
  | cpL  -- BD: CP L (R141)
  | cpAtHl  -- BE: CP (HL) (R142)
  | cpA  -- BF: CP A (R141)
  | retNz  -- C0: RET NZ (R170)
  | popBc  -- C1: POP BC (R114)
  | pushBc  -- C5: PUSH BC (R112)
  | rst00  -- C7: RST 0x00 (R172)
  | retZ  -- C8: RET Z (R170)
  | ret  -- C9: RET (R169)
  | prefixCb  -- CB: PREFIX CB (R178)
  | rst08  -- CF: RST 0x08 (R172)
  | retNc  -- D0: RET NC (R170)
  | popDe  -- D1: POP DE (R114)
  | illegalD3  -- D3: (illegal 0xD3) (R179)
  | pushDe  -- D5: PUSH DE (R112)
  | rst10  -- D7: RST 0x10 (R172)
  | retC  -- D8: RET C (R170)
  | reti  -- D9: RETI (R171)
  | illegalDB  -- DB: (illegal 0xDB) (R179)
  | illegalDD  -- DD: (illegal 0xDD) (R179)
  | rst18  -- DF: RST 0x18 (R172)
  | popHl  -- E1: POP HL (R114)
  | ldAtCA  -- E2: LD (C),A (R104)
  | illegalE3  -- E3: (illegal 0xE3) (R179)
  | illegalE4  -- E4: (illegal 0xE4) (R179)
  | pushHl  -- E5: PUSH HL (R112)
  | rst20  -- E7: RST 0x20 (R172)
  | jpHl  -- E9: JP HL (R164)
  | illegalEB  -- EB: (illegal 0xEB) (R179)
  | illegalEC  -- EC: (illegal 0xEC) (R179)
  | illegalED  -- ED: (illegal 0xED) (R179)
  | rst28  -- EF: RST 0x28 (R172)
  | popAf  -- F1: POP AF (R115)
  | ldAAtC  -- F2: LD A,(C) (R103)
  | di  -- F3: DI (R176)
  | illegalF4  -- F4: (illegal 0xF4) (R179)
  | pushAf  -- F5: PUSH AF (R113)
  | rst30  -- F7: RST 0x30 (R172)
  | ldSpHl  -- F9: LD SP,HL (R111)
  | ei  -- FB: EI (R177)
  | illegalFC  -- FC: (illegal 0xFC) (R179)
  | illegalFD  -- FD: (illegal 0xFD) (R179)
  | rst38  -- FF: RST 0x38 (R172)
  | rlcB  -- CB 00: RLC B (R182)
  | rlcC  -- CB 01: RLC C (R182)
  | rlcD  -- CB 02: RLC D (R182)
  | rlcE  -- CB 03: RLC E (R182)
  | rlcH  -- CB 04: RLC H (R182)
  | rlcL  -- CB 05: RLC L (R182)
  | rlcAtHl  -- CB 06: RLC (HL) (R183)
  | rlcA  -- CB 07: RLC A (R182)
  | rrcB  -- CB 08: RRC B (R184)
  | rrcC  -- CB 09: RRC C (R184)
  | rrcD  -- CB 0A: RRC D (R184)
  | rrcE  -- CB 0B: RRC E (R184)
  | rrcH  -- CB 0C: RRC H (R184)
  | rrcL  -- CB 0D: RRC L (R184)
  | rrcAtHl  -- CB 0E: RRC (HL) (R185)
  | rrcA  -- CB 0F: RRC A (R184)
  | rlB  -- CB 10: RL B (R186)
  | rlC  -- CB 11: RL C (R186)
  | rlD  -- CB 12: RL D (R186)
  | rlE  -- CB 13: RL E (R186)
  | rlH  -- CB 14: RL H (R186)
  | rlL  -- CB 15: RL L (R186)
  | rlAtHl  -- CB 16: RL (HL) (R187)
  | rlA  -- CB 17: RL A (R186)
  | rrB  -- CB 18: RR B (R188)
  | rrC  -- CB 19: RR C (R188)
  | rrD  -- CB 1A: RR D (R188)
  | rrE  -- CB 1B: RR E (R188)
  | rrH  -- CB 1C: RR H (R188)
  | rrL  -- CB 1D: RR L (R188)
  | rrAtHl  -- CB 1E: RR (HL) (R189)
  | rrA  -- CB 1F: RR A (R188)
  | slaB  -- CB 20: SLA B (R190)
  | slaC  -- CB 21: SLA C (R190)
  | slaD  -- CB 22: SLA D (R190)
  | slaE  -- CB 23: SLA E (R190)
  | slaH  -- CB 24: SLA H (R190)
  | slaL  -- CB 25: SLA L (R190)
  | slaAtHl  -- CB 26: SLA (HL) (R191)
  | slaA  -- CB 27: SLA A (R190)
  | sraB  -- CB 28: SRA B (R192)
  | sraC  -- CB 29: SRA C (R192)
  | sraD  -- CB 2A: SRA D (R192)
  | sraE  -- CB 2B: SRA E (R192)
  | sraH  -- CB 2C: SRA H (R192)
  | sraL  -- CB 2D: SRA L (R192)
  | sraAtHl  -- CB 2E: SRA (HL) (R193)
  | sraA  -- CB 2F: SRA A (R192)
  | swapB  -- CB 30: SWAP B (R194)
  | swapC  -- CB 31: SWAP C (R194)
  | swapD  -- CB 32: SWAP D (R194)
  | swapE  -- CB 33: SWAP E (R194)
  | swapH  -- CB 34: SWAP H (R194)
  | swapL  -- CB 35: SWAP L (R194)
  | swapAtHl  -- CB 36: SWAP (HL) (R195)
  | swapA  -- CB 37: SWAP A (R194)
  | srlB  -- CB 38: SRL B (R196)
  | srlC  -- CB 39: SRL C (R196)
  | srlD  -- CB 3A: SRL D (R196)
  | srlE  -- CB 3B: SRL E (R196)
  | srlH  -- CB 3C: SRL H (R196)
  | srlL  -- CB 3D: SRL L (R196)
  | srlAtHl  -- CB 3E: SRL (HL) (R197)
  | srlA  -- CB 3F: SRL A (R196)
  | bit0B  -- CB 40: BIT 0,B (R198)
  | bit0C  -- CB 41: BIT 0,C (R198)
  | bit0D  -- CB 42: BIT 0,D (R198)
  | bit0E  -- CB 43: BIT 0,E (R198)
  | bit0H  -- CB 44: BIT 0,H (R198)
  | bit0L  -- CB 45: BIT 0,L (R198)
  | bit0AtHl  -- CB 46: BIT 0,(HL) (R199)
  | bit0A  -- CB 47: BIT 0,A (R198)
  | bit1B  -- CB 48: BIT 1,B (R198)
  | bit1C  -- CB 49: BIT 1,C (R198)
  | bit1D  -- CB 4A: BIT 1,D (R198)
  | bit1E  -- CB 4B: BIT 1,E (R198)
  | bit1H  -- CB 4C: BIT 1,H (R198)
  | bit1L  -- CB 4D: BIT 1,L (R198)
  | bit1AtHl  -- CB 4E: BIT 1,(HL) (R199)
  | bit1A  -- CB 4F: BIT 1,A (R198)
  | bit2B  -- CB 50: BIT 2,B (R198)
  | bit2C  -- CB 51: BIT 2,C (R198)
  | bit2D  -- CB 52: BIT 2,D (R198)
  | bit2E  -- CB 53: BIT 2,E (R198)
  | bit2H  -- CB 54: BIT 2,H (R198)
  | bit2L  -- CB 55: BIT 2,L (R198)
  | bit2AtHl  -- CB 56: BIT 2,(HL) (R199)
  | bit2A  -- CB 57: BIT 2,A (R198)
  | bit3B  -- CB 58: BIT 3,B (R198)
  | bit3C  -- CB 59: BIT 3,C (R198)
  | bit3D  -- CB 5A: BIT 3,D (R198)
  | bit3E  -- CB 5B: BIT 3,E (R198)
  | bit3H  -- CB 5C: BIT 3,H (R198)
  | bit3L  -- CB 5D: BIT 3,L (R198)
  | bit3AtHl  -- CB 5E: BIT 3,(HL) (R199)
  | bit3A  -- CB 5F: BIT 3,A (R198)
  | bit4B  -- CB 60: BIT 4,B (R198)
  | bit4C  -- CB 61: BIT 4,C (R198)
  | bit4D  -- CB 62: BIT 4,D (R198)
  | bit4E  -- CB 63: BIT 4,E (R198)
  | bit4H  -- CB 64: BIT 4,H (R198)
  | bit4L  -- CB 65: BIT 4,L (R198)
  | bit4AtHl  -- CB 66: BIT 4,(HL) (R199)
  | bit4A  -- CB 67: BIT 4,A (R198)
  | bit5B  -- CB 68: BIT 5,B (R198)
  | bit5C  -- CB 69: BIT 5,C (R198)
  | bit5D  -- CB 6A: BIT 5,D (R198)
  | bit5E  -- CB 6B: BIT 5,E (R198)
  | bit5H  -- CB 6C: BIT 5,H (R198)
  | bit5L  -- CB 6D: BIT 5,L (R198)
  | bit5AtHl  -- CB 6E: BIT 5,(HL) (R199)
  | bit5A  -- CB 6F: BIT 5,A (R198)
  | bit6B  -- CB 70: BIT 6,B (R198)
  | bit6C  -- CB 71: BIT 6,C (R198)
  | bit6D  -- CB 72: BIT 6,D (R198)
  | bit6E  -- CB 73: BIT 6,E (R198)
  | bit6H  -- CB 74: BIT 6,H (R198)
  | bit6L  -- CB 75: BIT 6,L (R198)
  | bit6AtHl  -- CB 76: BIT 6,(HL) (R199)
  | bit6A  -- CB 77: BIT 6,A (R198)
  | bit7B  -- CB 78: BIT 7,B (R198)
  | bit7C  -- CB 79: BIT 7,C (R198)
  | bit7D  -- CB 7A: BIT 7,D (R198)
  | bit7E  -- CB 7B: BIT 7,E (R198)
  | bit7H  -- CB 7C: BIT 7,H (R198)
  | bit7L  -- CB 7D: BIT 7,L (R198)
  | bit7AtHl  -- CB 7E: BIT 7,(HL) (R199)
  | bit7A  -- CB 7F: BIT 7,A (R198)
  | res0B  -- CB 80: RES 0,B (R200)
  | res0C  -- CB 81: RES 0,C (R200)
  | res0D  -- CB 82: RES 0,D (R200)
  | res0E  -- CB 83: RES 0,E (R200)
  | res0H  -- CB 84: RES 0,H (R200)
  | res0L  -- CB 85: RES 0,L (R200)
  | res0AtHl  -- CB 86: RES 0,(HL) (R201)
  | res0A  -- CB 87: RES 0,A (R200)
  | res1B  -- CB 88: RES 1,B (R200)
  | res1C  -- CB 89: RES 1,C (R200)
  | res1D  -- CB 8A: RES 1,D (R200)
  | res1E  -- CB 8B: RES 1,E (R200)
  | res1H  -- CB 8C: RES 1,H (R200)
  | res1L  -- CB 8D: RES 1,L (R200)
  | res1AtHl  -- CB 8E: RES 1,(HL) (R201)
  | res1A  -- CB 8F: RES 1,A (R200)
  | res2B  -- CB 90: RES 2,B (R200)
  | res2C  -- CB 91: RES 2,C (R200)
  | res2D  -- CB 92: RES 2,D (R200)
  | res2E  -- CB 93: RES 2,E (R200)
  | res2H  -- CB 94: RES 2,H (R200)
  | res2L  -- CB 95: RES 2,L (R200)
  | res2AtHl  -- CB 96: RES 2,(HL) (R201)
  | res2A  -- CB 97: RES 2,A (R200)
  | res3B  -- CB 98: RES 3,B (R200)
  | res3C  -- CB 99: RES 3,C (R200)
  | res3D  -- CB 9A: RES 3,D (R200)
  | res3E  -- CB 9B: RES 3,E (R200)
  | res3H  -- CB 9C: RES 3,H (R200)
  | res3L  -- CB 9D: RES 3,L (R200)
  | res3AtHl  -- CB 9E: RES 3,(HL) (R201)
  | res3A  -- CB 9F: RES 3,A (R200)
  | res4B  -- CB A0: RES 4,B (R200)
  | res4C  -- CB A1: RES 4,C (R200)
  | res4D  -- CB A2: RES 4,D (R200)
  | res4E  -- CB A3: RES 4,E (R200)
  | res4H  -- CB A4: RES 4,H (R200)
  | res4L  -- CB A5: RES 4,L (R200)
  | res4AtHl  -- CB A6: RES 4,(HL) (R201)
  | res4A  -- CB A7: RES 4,A (R200)
  | res5B  -- CB A8: RES 5,B (R200)
  | res5C  -- CB A9: RES 5,C (R200)
  | res5D  -- CB AA: RES 5,D (R200)
  | res5E  -- CB AB: RES 5,E (R200)
  | res5H  -- CB AC: RES 5,H (R200)
  | res5L  -- CB AD: RES 5,L (R200)
  | res5AtHl  -- CB AE: RES 5,(HL) (R201)
  | res5A  -- CB AF: RES 5,A (R200)
  | res6B  -- CB B0: RES 6,B (R200)
  | res6C  -- CB B1: RES 6,C (R200)
  | res6D  -- CB B2: RES 6,D (R200)
  | res6E  -- CB B3: RES 6,E (R200)
  | res6H  -- CB B4: RES 6,H (R200)
  | res6L  -- CB B5: RES 6,L (R200)
  | res6AtHl  -- CB B6: RES 6,(HL) (R201)
  | res6A  -- CB B7: RES 6,A (R200)
  | res7B  -- CB B8: RES 7,B (R200)
  | res7C  -- CB B9: RES 7,C (R200)
  | res7D  -- CB BA: RES 7,D (R200)
  | res7E  -- CB BB: RES 7,E (R200)
  | res7H  -- CB BC: RES 7,H (R200)
  | res7L  -- CB BD: RES 7,L (R200)
  | res7AtHl  -- CB BE: RES 7,(HL) (R201)
  | res7A  -- CB BF: RES 7,A (R200)
  | set0B  -- CB C0: SET 0,B (R202)
  | set0C  -- CB C1: SET 0,C (R202)
  | set0D  -- CB C2: SET 0,D (R202)
  | set0E  -- CB C3: SET 0,E (R202)
  | set0H  -- CB C4: SET 0,H (R202)
  | set0L  -- CB C5: SET 0,L (R202)
  | set0AtHl  -- CB C6: SET 0,(HL) (R203)
  | set0A  -- CB C7: SET 0,A (R202)
  | set1B  -- CB C8: SET 1,B (R202)
  | set1C  -- CB C9: SET 1,C (R202)
  | set1D  -- CB CA: SET 1,D (R202)
  | set1E  -- CB CB: SET 1,E (R202)
  | set1H  -- CB CC: SET 1,H (R202)
  | set1L  -- CB CD: SET 1,L (R202)
  | set1AtHl  -- CB CE: SET 1,(HL) (R203)
  | set1A  -- CB CF: SET 1,A (R202)
  | set2B  -- CB D0: SET 2,B (R202)
  | set2C  -- CB D1: SET 2,C (R202)
  | set2D  -- CB D2: SET 2,D (R202)
  | set2E  -- CB D3: SET 2,E (R202)
  | set2H  -- CB D4: SET 2,H (R202)
  | set2L  -- CB D5: SET 2,L (R202)
  | set2AtHl  -- CB D6: SET 2,(HL) (R203)
  | set2A  -- CB D7: SET 2,A (R202)
  | set3B  -- CB D8: SET 3,B (R202)
  | set3C  -- CB D9: SET 3,C (R202)
  | set3D  -- CB DA: SET 3,D (R202)
  | set3E  -- CB DB: SET 3,E (R202)
  | set3H  -- CB DC: SET 3,H (R202)
  | set3L  -- CB DD: SET 3,L (R202)
  | set3AtHl  -- CB DE: SET 3,(HL) (R203)
  | set3A  -- CB DF: SET 3,A (R202)
  | set4B  -- CB E0: SET 4,B (R202)
  | set4C  -- CB E1: SET 4,C (R202)
  | set4D  -- CB E2: SET 4,D (R202)
  | set4E  -- CB E3: SET 4,E (R202)
  | set4H  -- CB E4: SET 4,H (R202)
  | set4L  -- CB E5: SET 4,L (R202)
  | set4AtHl  -- CB E6: SET 4,(HL) (R203)
  | set4A  -- CB E7: SET 4,A (R202)
  | set5B  -- CB E8: SET 5,B (R202)
  | set5C  -- CB E9: SET 5,C (R202)
  | set5D  -- CB EA: SET 5,D (R202)
  | set5E  -- CB EB: SET 5,E (R202)
  | set5H  -- CB EC: SET 5,H (R202)
  | set5L  -- CB ED: SET 5,L (R202)
  | set5AtHl  -- CB EE: SET 5,(HL) (R203)
  | set5A  -- CB EF: SET 5,A (R202)
  | set6B  -- CB F0: SET 6,B (R202)
  | set6C  -- CB F1: SET 6,C (R202)
  | set6D  -- CB F2: SET 6,D (R202)
  | set6E  -- CB F3: SET 6,E (R202)
  | set6H  -- CB F4: SET 6,H (R202)
  | set6L  -- CB F5: SET 6,L (R202)
  | set6AtHl  -- CB F6: SET 6,(HL) (R203)
  | set6A  -- CB F7: SET 6,A (R202)
  | set7B  -- CB F8: SET 7,B (R202)
  | set7C  -- CB F9: SET 7,C (R202)
  | set7D  -- CB FA: SET 7,D (R202)
  | set7E  -- CB FB: SET 7,E (R202)
  | set7H  -- CB FC: SET 7,H (R202)
  | set7L  -- CB FD: SET 7,L (R202)
  | set7AtHl  -- CB FE: SET 7,(HL) (R203)
  | set7A  -- CB FF: SET 7,A (R202)
  deriving DecidableEq, Repr

end Sys2Proof
end

