-- ==== Sys2Proof/Machine/Flags.lean ====
section
/-! DEFINITION. The flag unit and the arithmetic, logic, rotate and bit datapaths with every flag they compute (10_state.md
rules R23, R24, R26; 43_alu8.md; 44_alu16.md; 47_cb.md). Everything here is a function of its operands alone. -/

namespace Sys2Proof.Machine

/-- The packed flag byte F (rule R23). -/
def Flags.pack (f : Flags) : Byte :=
  BitVec.ofNat 8 (b2n f.z * 0x80 + b2n f.n * 0x40 + b2n f.h * 0x20 + b2n f.c * 0x10)

/-- `Fwrite(v)`: bits 3:0 are discarded (rule R24). -/
def Flags.unpack (v : Byte) : Flags where
  z := v.getLsbD 7
  n := v.getLsbD 6
  h := v.getLsbD 5
  c := v.getLsbD 4

/-! ## 8-bit arithmetic and logic -/

/-- `AddOp(a, b, cin)` (rule R117). -/
def addOp (a b : Byte) (cin : Nat) : Byte × Flags :=
  let r := a.toNat + b.toNat + cin
  (BitVec.ofNat 8 r,
   { z := r % 256 == 0
     n := false
     h := ((a.toNat ^^^ b.toNat ^^^ r) &&& 0x10) != 0
     c := decide (r > 0xFF) })

/-- `SubOp(a, b, cin)` (rule R118), with the widened intermediate `r9`. -/
def subOp (a b : Byte) (cin : Nat) : Byte × Flags :=
  let r : Int := (a.toNat : Int) - b.toNat - cin
  let r9 : Nat := (r % 4294967296).toNat
  (BitVec.ofNat 8 r9,
   { z := r9 % 256 == 0
     n := true
     h := ((a.toNat ^^^ b.toNat ^^^ r9) &&& 0x10) != 0
     c := decide (r < 0) })

/-- A logic operation's result with its flags: Z from the result, N and Cf clear, Hf as given (rule R131). -/
def logicOp (r : Byte) (half : Bool) : Byte × Flags :=
  (r, { z := r == 0, n := false, h := half, c := false })

/-- An operation of the ALU groups on A and an operand, under the flags `f`: the byte A receives and the flags (rules R63,
R119 to R143). CP gives A back (rule R141). -/
def aluOp (op : AluOp) (a b : Byte) (f : Flags) : Byte × Flags :=
  match op with
  | .add => addOp a b 0
  | .adc => addOp a b (b2n f.c)
  | .sub => subOp a b 0
  | .sbc => subOp a b (b2n f.c)
  | .and => logicOp (a &&& b) true
  | .xor => logicOp (a ^^^ b) false
  | .or => logicOp (a ||| b) false
  | .cp => (a, (subOp a b 0).2)

/-- INC's result and flags: Cf unchanged (rules R144, R145). -/
def incOp (v : Byte) (f : Flags) : Byte × Flags :=
  let r := v + 1
  (r, { z := r == 0, n := false, h := v.toNat % 16 == 0xF, c := f.c })

/-- DEC's result and flags: Cf unchanged (rules R146, R147). -/
def decOp (v : Byte) (f : Flags) : Byte × Flags :=
  let r := v - 1
  (r, { z := r == 0, n := true, h := v.toNat % 16 == 0x0, c := f.c })

/-- DAA's result and flags (rule R148). The tests read the accumulator as it was before. -/
def daaOp (a : Byte) (f : Flags) : Byte × Flags :=
  let high := if f.n then f.c else f.c || decide (a.toNat > 0x99)
  let low := if f.n then f.h else f.h || decide (a.toNat % 16 > 0x09)
  let fix : Byte := (if high then 0x60 else 0x00) + (if low then 0x06 else 0x00)
  let r := if f.n then a - fix else a + fix
  (r, { z := r == 0, n := f.n, h := false, c := if f.n then f.c else high })

/-! ## Rotates, shifts and bits -/

/-- A bit moved into bit 0. -/
def bit0 (x : Bool) : Byte := if x then 0x01 else 0x00

/-- A bit moved into bit 7. -/
def bit7 (x : Bool) : Byte := if x then 0x80 else 0x00

/-- The data path of a rotate or shift: the result and the outgoing bit, with `cin` the old Cf (rules R182 to R197). -/
def rotData (op : RotOp) (v : Byte) (cin : Bool) : Byte × Bool :=
  match op with
  | .rlc => ((v <<< 1) ||| bit0 (v.getLsbD 7), v.getLsbD 7)
  | .rrc => ((v >>> 1) ||| bit7 (v.getLsbD 0), v.getLsbD 0)
  | .rl => ((v <<< 1) ||| bit0 cin, v.getLsbD 7)
  | .rr => ((v >>> 1) ||| bit7 cin, v.getLsbD 0)
  | .sla => (v <<< 1, v.getLsbD 7)
  | .sra => ((v >>> 1) ||| (v &&& 0x80), v.getLsbD 0)
  | .swap => ((v <<< 4) ||| (v >>> 4), false)
  | .srl => (v >>> 1, v.getLsbD 0)

/-- `RotOp(k, v)` of the CB table, Z from the result (rule R180). -/
def rotOp (op : RotOp) (v : Byte) (f : Flags) : Byte × Flags :=
  let x := rotData op v f.c
  (x.1, { z := x.1 == 0, n := false, h := false, c := x.2 })

/-- The accumulator rotates clear Z whatever the result (rule R152). -/
def rotOpA (op : RotOp) (v : Byte) (f : Flags) : Byte × Flags :=
  let x := rotData op v f.c
  (x.1, { z := false, n := false, h := false, c := x.2 })

/-- BIT's flags: Z = not bit b, N = 0, Hf = 1, Cf unchanged (rules R198, R199). -/
def bitFlags (b : Fin 8) (v : Byte) (f : Flags) : Flags :=
  { z := !v.getLsbD b.val, n := false, h := true, c := f.c }

/-- `v & ~(1 << b) & 0xFF` (rules R200, R201). -/
def resBit (b : Fin 8) (v : Byte) : Byte := v &&& ~~~((0x01 : Byte) <<< b.val)

/-- `v | (1 << b)` (rules R202, R203). -/
def setBit (b : Fin 8) (v : Byte) : Byte := v ||| ((0x01 : Byte) <<< b.val)

/-! ## 16-bit arithmetic -/

/-- ADD HL,rr: the sum and the flags, Z unchanged, Hf the carry out of bit 11 (rule R157). -/
def add16Op (a b : Word) (f : Flags) : Word × Flags :=
  let r := a.toNat + b.toNat
  (BitVec.ofNat 16 r,
   { z := f.z
     n := false
     h := ((a.toNat ^^^ b.toNat ^^^ r) &&& 0x1000) != 0
     c := decide (r > 0xFFFF) })

/-- SP plus the signed displacement `u`, with the flags of the unsigned addition of the low bytes (rules R116, R160). -/
def spPlusOp (sp : Word) (u : Byte) : Word × Flags :=
  (sp + sext8 u,
   { z := false
     n := false
     h := decide (sp.toNat % 16 + u.toNat % 16 > 0x0F)
     c := decide (sp.toNat % 256 + u.toNat > 0xFF) })

end Sys2Proof.Machine
end

