-- ==== Sys2Proof/Machine/Operands.lean ====
section
/-! DEFINITION. Reading and writing the operands held in the register file, the addresses operands form, and the
conditions (10_state.md rules R18 to R21; 30_encoding.md rules R60 to R62, R65; 45_control.md rule R161). -/

namespace Sys2Proof.Machine

/-- The register `r` (rule R18). -/
def Regs.get (g : Regs) (r : Reg8) : Byte :=
  match r with
  | .a => g.a
  | .b => g.b
  | .c => g.c
  | .d => g.d
  | .e => g.e
  | .h => g.h
  | .l => g.l

/-- The register file with `v` in the register `r`. -/
def Regs.set (g : Regs) (r : Reg8) (v : Byte) : Regs :=
  match r with
  | .a => { g with a := v }
  | .b => { g with b := v }
  | .c => { g with c := v }
  | .d => { g with d := v }
  | .e => { g with e := v }
  | .h => { g with h := v }
  | .l => { g with l := v }

/-- `R8[r]` for a register. -/
def State.reg (s : State) (r : Reg8) : Byte := s.regs.get r

/-- `R8[r] <- v` for a register. -/
def State.setReg (s : State) (r : Reg8) (v : Byte) : State := { s with regs := s.regs.set r v }

/-- `read16` of the set {BC, DE, HL, SP} (rule R19). -/
def State.pair (s : State) (p : Pair) : Word :=
  match p with
  | .bc => joinBytes s.regs.b s.regs.c
  | .de => joinBytes s.regs.d s.regs.e
  | .hl => joinBytes s.regs.h s.regs.l
  | .sp => s.sp

/-- `write16` of the set {BC, DE, HL, SP} (rule R19). -/
def State.setPair (s : State) (p : Pair) (v : Word) : State :=
  match p with
  | .bc => { s with regs := { s.regs with b := hiByte v, c := loByte v } }
  | .de => { s with regs := { s.regs with d := hiByte v, e := loByte v } }
  | .hl => { s with regs := { s.regs with h := hiByte v, l := loByte v } }
  | .sp => { s with sp := v }

/-- `read16` of the set {BC, DE, HL, AF} (rules R19, R23). -/
def State.stackPair (s : State) (q : StackPair) : Word :=
  match q with
  | .bc => s.pair .bc
  | .de => s.pair .de
  | .hl => s.pair .hl
  | .af => joinBytes s.regs.a s.flags.pack

/-- `write16` of the set {BC, DE, HL, AF}: F goes through the flag write (rules R19, R24). -/
def State.setStackPair (s : State) (q : StackPair) (v : Word) : State :=
  match q with
  | .bc => s.setPair .bc v
  | .de => s.setPair .de v
  | .hl => s.setPair .hl v
  | .af => { s with regs := { s.regs with a := hiByte v }, flags := .unpack (loByte v) }

/-- The address in the pointer pair (rule R20). -/
def State.hl (s : State) : Word := s.pair .hl

/-- `0xFF00 + v`, the address of the LDH and (C) forms (rule R65). -/
def highPage (v : Byte) : Word := 0xFF00 + zext16 v

/-- `cond(c)` (rule R161). -/
def State.cond (s : State) (cc : Cond) : Bool :=
  match cc with
  | .nz => !s.flags.z
  | .z => s.flags.z
  | .nc => !s.flags.c
  | .c => s.flags.c

end Sys2Proof.Machine
end

