-- ==== Sys2Proof/Machine/Ops.lean ====
section
/-! DEFINITION. The shared operations: memory in its canonical form, the five bus operations (20_memory.md), the timed
primitives (40_dispatch.md rules R77 to R85), the fatal outcome and interrupt entry (60_exceptions.md), and the part of a
step before its opcode fetch (rules R73 to R75). A primitive that returns a value returns it with the state after it. -/

namespace Sys2Proof.Machine

/-! ## Memory -/

/-- What an address nothing has written reads as (DESIGN CHOICE, log 3). -/
def Memory.unlisted : Byte := 0x00

/-- The byte at an address. -/
def Memory.read : Memory → Nat → Byte
  | [], _ => Memory.unlisted
  | (a, v) :: rest, x => if a = x then v else Memory.read rest x

/-- A cell put at its place in a rising list. -/
def Memory.insert : Memory → Nat → Byte → Memory
  | [], x, v => [(x, v)]
  | (a, w) :: rest, x, v => if x < a then (x, v) :: (a, w) :: rest else (a, w) :: Memory.insert rest x v

/-- The list without the cells of an address. -/
def Memory.erase : Memory → Nat → Memory
  | [], _ => []
  | (a, w) :: rest, x => if a = x then Memory.erase rest x else (a, w) :: Memory.erase rest x

/-- The memory with `v` at an address, in canonical form when it was. -/
def Memory.write (m : Memory) (x : Nat) (v : Byte) : Memory :=
  if v = Memory.unlisted then m.erase x else (m.erase x).insert x v

/-- The canonical form from the address `lo` on: addresses rising, inside the space of 65536 bytes, no byte listed that
an unlisted address reads as. -/
def Memory.wfFrom : Nat → Memory → Bool
  | _, [] => true
  | lo, (a, v) :: rest =>
    decide (lo ≤ a) && decide (a < 65536) && decide (v ≠ Memory.unlisted) && Memory.wfFrom (a + 1) rest

/-- The canonical form of memory. -/
def Memory.wf (m : Memory) : Bool := Memory.wfFrom 0 m

/-! ## Interrupt conditions -/

/-- Whether the set holds a source. -/
def IntSet.has (t : IntSet) (it : IntSource) : Bool :=
  match it with
  | .vblank => t.vblank
  | .lcdstat => t.lcdstat
  | .timer => t.timer
  | .serial => t.serial
  | .joypad => t.joypad

/-- The set with a source put in (`x` true) or taken out (`x` false). -/
def IntSet.put (t : IntSet) (it : IntSource) (x : Bool) : IntSet :=
  match it with
  | .vblank => { t with vblank := x }
  | .lcdstat => { t with lcdstat := x }
  | .timer => { t with timer := x }
  | .serial => { t with serial := x }
  | .joypad => { t with joypad := x }

/-- The sources in priority order (rule R204). -/
def IntSource.byPriority : List IntSource := [.vblank, .lcdstat, .timer, .serial, .joypad]

/-- The fixed vector of a source (rules R48, R204). -/
def IntSource.vector (it : IntSource) : Word :=
  match it with
  | .vblank => 0x0040
  | .lcdstat => 0x0048
  | .timer => 0x0050
  | .serial => 0x0058
  | .joypad => 0x0060

/-! ## What stands behind the bus (log 1) -/

/-- The value of a term in a call with the address `addr` and the byte `val`. -/
def BusTerm.eval (b : Bus) (addr : Word) (val : Byte) : BusTerm → Nat
  | .lit n => n
  | .addr => addr.toNat
  | .val => val.toNat
  | .byte a => (b.mem.read (a.eval b addr val % 65536)).toNat
  | .reg r => b.regs.getD (r.eval b addr val) 0
  | .pending it => b2n (b.pending.has it)
  | .enabled it => b2n (b.enabled.has it)
  | .add x y => x.eval b addr val + y.eval b addr val
  | .sub x y => x.eval b addr val - y.eval b addr val
  | .mul x y => x.eval b addr val * y.eval b addr val
  | .div x y => x.eval b addr val / y.eval b addr val
  | .mod x y => x.eval b addr val % y.eval b addr val
  | .and x y => x.eval b addr val &&& y.eval b addr val
  | .lt x y => b2n (decide (x.eval b addr val < y.eval b addr val))
  | .eq x y => b2n (decide (x.eval b addr val = y.eval b addr val))
  | .cond c t e => if c.eval b addr val ≠ 0 then t.eval b addr val else e.eval b addr val

/-- The memory behind the bus with one byte changed. -/
def Bus.poke (b : Bus) (addr : Nat) (v : Byte) : Bus := { b with mem := b.mem.write (addr % 65536) v }

/-- One effect of a call. -/
def Bus.effect (addr : Word) (val : Byte) (b : Bus) (e : BusEffect) : Bus :=
  match e with
  | .poke a v => b.poke (a.eval b addr val) (BitVec.ofNat 8 (v.eval b addr val))
  | .put r v => { b with regs := b.regs.set (r.eval b addr val) (v.eval b addr val) }
  | .enable it => { b with enabled := b.enabled.put it true }
  | .disable it => { b with enabled := b.enabled.put it false }

/-- One rule of a call. -/
def Bus.rule (addr : Word) (val : Byte) (b : Bus) (r : BusRule) : Bus :=
  if r.guard.eval b addr val ≠ 0 then r.effects.foldl (Bus.effect addr val) b else b

/-- The rules of a call, in order. -/
def Bus.react (rules : List BusRule) (addr : Word) (val : Byte) (b : Bus) : Bus := rules.foldl (Bus.rule addr val) b

/-- What one event from outside does (log 2). -/
def Bus.event (b : Bus) (e : BusEvent) : Bus :=
  match e with
  | .raise it => { b with pending := b.pending.put it true }
  | .enable it => { b with enabled := b.enabled.put it true }
  | .disable it => { b with enabled := b.enabled.put it false }
  | .poke addr v => b.poke addr.toNat v
  | .put r v => { b with regs := b.regs.set r v }

/-- The outside brings what the inbox holds for this tick (log 2). -/
def Bus.receive (b : Bus) : Bus :=
  match b.inbox with
  | [] => b
  | events :: rest => events.foldl Bus.event { b with inbox := rest }

/-- One condition raised where its term is not 0 (rules R42, R205). -/
def Bus.raiseIf (b : Bus) (x : BusTerm × IntSource) : Bus :=
  if x.1.eval b 0 0 ≠ 0 then { b with pending := b.pending.put x.2 true } else b

/-! ## The five bus operations -/

/-- The answer of `fetch_byte(addr)` (rule R40). -/
def Bus.fetchByte (b : Bus) (addr : Word) : Byte := BitVec.ofNat 8 (b.model.answer.eval b addr 0)

/-- The bus after a `fetch_byte(addr)` (rules R40, R228). -/
def Bus.afterFetch (b : Bus) (addr : Word) : Bus := b.react b.model.onFetch addr 0

/-- `store_byte(addr, v)` (rule R41). -/
def Bus.storeByte (b : Bus) (addr : Word) (v : Byte) : Bus := b.react b.model.onStore addr v

/-- `step()`: what comes from outside, the peripherals, then the conditions they raise (rule R42). -/
def Bus.step (b : Bus) : Bus := b.model.raises.foldl Bus.raiseIf (b.receive.react b.model.onStep 0 0)

/-- `next_interrupt()`: the highest-priority pending-and-enabled interrupt (rules R43, R205). -/
def Bus.nextInterrupt (b : Bus) : Option IntSource :=
  IntSource.byPriority.find? fun it => b.pending.has it && b.enabled.has it

/-- What `next_interrupt_ack()` leaves behind it: the condition it returned is cleared (rules R44, R205). -/
def Bus.acknowledge (b : Bus) : Bus :=
  match b.nextInterrupt with
  | none => b
  | some it => { b with pending := b.pending.put it false }

/-! ## Bus operations of the block, recorded -/

/-- The state with one more operation recorded. -/
def State.record (s : State) (op : BusOp) : State := { s with trace := s.trace ++ [op] }

/-- `Tick()` (rules R13, R33, R42). -/
def tick (s : State) : State := { s.record .step with bus := s.bus.step, cyc := s.cyc + 1 }

/-- `k` ticks. -/
def ticks : Nat → State → State
  | 0, s => s
  | k + 1, s => ticks k (tick s)

/-- `MCycle()`: four ticks (rules R7, R77). -/
def mCycle (s : State) : State := ticks 4 s

/-- `Internal()` (rule R80). -/
def internal (s : State) : State := mCycle s

/-- `k` internal M-cycles. -/
def internals : Nat → State → State
  | 0, s => s
  | k + 1, s => internals k (internal s)

/-- `Read8(a)`: the access, then the ticks (rules R12, R77, R78). -/
def read8 (a : Word) (s : State) : Byte × State :=
  let v := s.bus.fetchByte a
  (v, mCycle { s.record (.fetchByte a v) with bus := s.bus.afterFetch a })

/-- `Write8(a, v)`: the access, then the ticks (rules R12, R77, R79). -/
def write8 (a : Word) (v : Byte) (s : State) : State :=
  mCycle { s.record (.storeByte a v) with bus := s.bus.storeByte a v }

/-- `next_interrupt()` called by the block (rule R43). -/
def peekInterrupt (s : State) : Option IntSource × State :=
  let it := s.bus.nextInterrupt
  (it, s.record (.nextInterrupt it))

/-- `next_interrupt_ack()` called by the block (rule R44). -/
def ackInterrupt (s : State) : Option IntSource × State :=
  let it := s.bus.nextInterrupt
  (it, { s.record (.nextInterruptAck it) with bus := s.bus.acknowledge })

/-! ## Fetches and the stack -/

/-- `Fetch8()` (rule R81). -/
def fetch8 (s : State) : Byte × State :=
  let x := read8 s.pc s
  (x.1, { x.2 with pc := s.pc + 1 })

/-- `FetchOpcode()`: the fetch that clears HALTBUG does not advance PC (rule R82). It notes the opcode's address
(rule R35, log 6). -/
def fetchOpcode (s : State) : Byte × State :=
  let x := read8 s.pc { s with opaddr := s.pc }
  (x.1, if s.haltBug then { x.2 with haltBug := false } else { x.2 with pc := s.pc + 1 })

/-- `Fetch16()`: low byte first (rule R83). -/
def fetch16 (s : State) : Word × State :=
  let lo := fetch8 s
  let hi := fetch8 lo.2
  (joinBytes hi.1 lo.1, hi.2)

/-- `Push16(v)`: high byte at SP-1, then low byte at SP-2 (rule R84). -/
def push16 (v : Word) (s : State) : State :=
  let s1 := write8 (s.sp - 1) (hiByte v) { s with sp := s.sp - 1 }
  write8 (s1.sp - 1) (loByte v) { s1 with sp := s1.sp - 1 }

/-- `Pop16()`: low byte from SP, then high byte (rule R85). -/
def pop16 (s : State) : Word × State :=
  let lo := read8 s.sp s
  let s1 : State := { lo.2 with sp := lo.2.sp + 1 }
  let hi := read8 s1.sp s1
  (joinBytes hi.1 lo.1, { hi.2 with sp := hi.2.sp + 1 })

/-! ## Taking an exception -/

/-- `raise Fatal(kind, opcode, opaddr)`: FATAL records the outcome and nothing else changes (rules R14, R32, R89, R213;
log 5). -/
def raiseFatal (kind : FatalKind) (opcode : Byte) (s : State) : State :=
  { s with fatal := some ⟨kind, opcode, s.opaddr⟩ }

/-- `InterruptEntry(it)` (rule R208). -/
def interruptEntry (it : IntSource) (s : State) : State :=
  let s1 := push16 s.pc { s with ime := false, pend := false, halted := false }
  { internals s.cfg.intExtraDelayM s1 with pc := it.vector }

/-- The return: PC popped, then an internal M-cycle (rules R169, R171). -/
def returnFrom (s : State) : State :=
  let v := pop16 s
  { internal v.2 with pc := v.1 }

/-! ## The part of a step before its opcode fetch -/

/-- Where a step stands before its opcode fetch: already over, or about to fetch. -/
inductive StepPhase where
  | finished (s : State)
  | fetching (s : State)
  deriving DecidableEq, Repr

/-- A step begins with `cyc` zero (rules R33, R73) and nothing recorded (log 7). -/
def beginStep (s : State) : State := { s with cyc := 0, trace := [] }

/-- The promotion of a pending enable (rule R74). -/
def promote (s : State) : State := if s.pend then { s with ime := true, pend := false } else s

/-- The halted step (rules R73 step 4, R75): the ticks, then the peek, whatever IME is (log 9). -/
def haltPhase (s : State) : StepPhase :=
  if s.halted then
    let x := peekInterrupt (ticks s.cfg.haltIdleTicks s)
    if !s.ime && x.1.isSome then .fetching { x.2 with halted := false } else .finished x.2
  else .fetching s

/-- Steps 1 to 4 of the step algorithm (rule R73). -/
def beforeFetch (s : State) : StepPhase :=
  let s0 := beginStep s
  if s0.ime then
    let x := ackInterrupt s0
    match x.1 with
    | some it => .finished (interruptEntry it x.2)
    | none => haltPhase x.2
  else haltPhase (promote s0)

end Sys2Proof.Machine
end

