-- ==== Sys2Proof/Machine/Alu16.lean ====
section
/-! DEFINITION. The meanings of the 16-bit arithmetic (44_alu16.md rules R157 to R160), after the
fetches of opcode and operands. -/

namespace Sys2Proof.Machine

/-! ## Shared operations -/

/-- ADD HL,rr (rule R157). -/
def addHl (p : Pair) (s : State) : State :=
  let x := add16Op s.hl (s.pair p) s.flags
  (internal { s with flags := x.2 }).setPair .hl x.1

/-- INC rr (`d` = 1) and DEC rr (`d` = -1): no flag is written (rules R158, R159). -/
def stepPair (d : Word) (p : Pair) (s : State) : State := (internal s).setPair p (s.pair p + d)

/-- The effect of ADD SP,e after its fetches (rule R160). -/
def addSp (u : Byte) (s : State) : State :=
  let x := spPlusOp s.sp u
  { internals 2 { s with flags := x.2 } with sp := x.1 }

/-! ## The instructions -/

/-- 03: INC BC (rule R158). -/
def execIncBc (s : State) : Outcome := .next (stepPair 1 .bc s)

/-- 09: ADD HL,BC (rule R157). -/
def execAddHlBc (s : State) : Outcome := .next (addHl .bc s)

/-- 0B: DEC BC (rule R159). -/
def execDecBc (s : State) : Outcome := .next (stepPair (-1) .bc s)

/-- 13: INC DE (rule R158). -/
def execIncDe (s : State) : Outcome := .next (stepPair 1 .de s)

/-- 19: ADD HL,DE (rule R157). -/
def execAddHlDe (s : State) : Outcome := .next (addHl .de s)

/-- 1B: DEC DE (rule R159). -/
def execDecDe (s : State) : Outcome := .next (stepPair (-1) .de s)

/-- 23: INC HL (rule R158). -/
def execIncHl (s : State) : Outcome := .next (stepPair 1 .hl s)

/-- 29: ADD HL,HL (rule R157). -/
def execAddHlHl (s : State) : Outcome := .next (addHl .hl s)

/-- 2B: DEC HL (rule R159). -/
def execDecHl (s : State) : Outcome := .next (stepPair (-1) .hl s)

/-- 33: INC SP (rule R158). -/
def execIncSp (s : State) : Outcome := .next (stepPair 1 .sp s)

/-- 39: ADD HL,SP (rule R157). -/
def execAddHlSp (s : State) : Outcome := .next (addHl .sp s)

/-- 3B: DEC SP (rule R159). -/
def execDecSp (s : State) : Outcome := .next (stepPair (-1) .sp s)

/-- E8: ADD SP,e (rule R160). -/
def execAddSpE (e : Byte) (s : State) : Outcome := .next (addSp e s)

end Sys2Proof.Machine
end

