-- ==== Sys2Proof/Machine/Alu8.lean ====
section
/-! DEFINITION. The meanings of the 8-bit arithmetic, logic, flag and accumulator-rotate instructions (43_alu8.md rules R117 to R156), after the
fetches of opcode and operands. -/

namespace Sys2Proof.Machine

/-! ## Shared operations -/

/-- An ALU operation on A and the byte `b`: A and the flags written (rules R119 to R143). -/
def aluByte (op : AluOp) (b : Byte) (s : State) : State :=
  let x := aluOp op s.regs.a b s.flags
  { s with regs := { s.regs with a := x.1 }, flags := x.2 }

/-- An ALU operation on A and a register. -/
def aluReg (op : AluOp) (r : Reg8) (s : State) : State := aluByte op (s.reg r) s

/-- An ALU operation on A and the byte at HL. -/
def aluMem (op : AluOp) (s : State) : State := aluByte op (read8 s.hl s).1 (read8 s.hl s).2

/-- INC or DEC of a register (rules R144, R146). -/
def stepReg (f : Byte → Flags → Byte × Flags) (r : Reg8) (s : State) : State :=
  let x := f (s.reg r) s.flags
  { s.setReg r x.1 with flags := x.2 }

/-- INC or DEC of the byte at HL: a read and a later write (rules R145, R147). -/
def stepMem (f : Byte → Flags → Byte × Flags) (s : State) : State :=
  let v := read8 s.hl s
  let x := f v.1 s.flags
  write8 s.hl x.1 { v.2 with flags := x.2 }

/-- An operation on A and the flags alone (rules R148, R152 to R156). -/
def onA (f : Byte → Flags → Byte × Flags) (s : State) : State :=
  let x := f s.regs.a s.flags
  { s with regs := { s.regs with a := x.1 }, flags := x.2 }

/-- CPL (rule R149). -/
def cpl (s : State) : State :=
  { s with regs := { s.regs with a := ~~~s.regs.a }, flags := { s.flags with n := true, h := true } }

/-- SCF (rule R150). -/
def scf (s : State) : State := { s with flags := { s.flags with n := false, h := false, c := true } }

/-- CCF (rule R151). -/
def ccf (s : State) : State := { s with flags := { s.flags with n := false, h := false, c := !s.flags.c } }

/-! ## The instructions -/

/-- 04: INC B (rule R144). -/
def execIncB (s : State) : Outcome := .next (stepReg incOp .b s)

/-- 05: DEC B (rule R146). -/
def execDecB (s : State) : Outcome := .next (stepReg decOp .b s)

/-- 07: RLCA (rule R153). -/
def execRlca (s : State) : Outcome := .next (onA (rotOpA .rlc) s)

/-- 0C: INC C (rule R144). -/
def execIncC (s : State) : Outcome := .next (stepReg incOp .c s)

/-- 0D: DEC C (rule R146). -/
def execDecC (s : State) : Outcome := .next (stepReg decOp .c s)

/-- 0F: RRCA (rule R155). -/
def execRrca (s : State) : Outcome := .next (onA (rotOpA .rrc) s)

/-- 14: INC D (rule R144). -/
def execIncD (s : State) : Outcome := .next (stepReg incOp .d s)

/-- 15: DEC D (rule R146). -/
def execDecD (s : State) : Outcome := .next (stepReg decOp .d s)

/-- 17: RLA (rule R154). -/
def execRla (s : State) : Outcome := .next (onA (rotOpA .rl) s)

/-- 1C: INC E (rule R144). -/
def execIncE (s : State) : Outcome := .next (stepReg incOp .e s)

/-- 1D: DEC E (rule R146). -/
def execDecE (s : State) : Outcome := .next (stepReg decOp .e s)

/-- 1F: RRA (rule R156). -/
def execRra (s : State) : Outcome := .next (onA (rotOpA .rr) s)

/-- 24: INC H (rule R144). -/
def execIncH (s : State) : Outcome := .next (stepReg incOp .h s)

/-- 25: DEC H (rule R146). -/
def execDecH (s : State) : Outcome := .next (stepReg decOp .h s)

/-- 27: DAA (rule R148). -/
def execDaa (s : State) : Outcome := .next (onA daaOp s)

/-- 2C: INC L (rule R144). -/
def execIncL (s : State) : Outcome := .next (stepReg incOp .l s)

/-- 2D: DEC L (rule R146). -/
def execDecL (s : State) : Outcome := .next (stepReg decOp .l s)

/-- 2F: CPL (rule R149). -/
def execCpl (s : State) : Outcome := .next (cpl s)

/-- 34: INC (HL) (rule R145). -/
def execIncAtHl (s : State) : Outcome := .next (stepMem incOp s)

/-- 35: DEC (HL) (rule R147). -/
def execDecAtHl (s : State) : Outcome := .next (stepMem decOp s)

/-- 37: SCF (rule R150). -/
def execScf (s : State) : Outcome := .next (scf s)

/-- 3C: INC A (rule R144). -/
def execIncA (s : State) : Outcome := .next (stepReg incOp .a s)

/-- 3D: DEC A (rule R146). -/
def execDecA (s : State) : Outcome := .next (stepReg decOp .a s)

/-- 3F: CCF (rule R151). -/
def execCcf (s : State) : Outcome := .next (ccf s)

/-- 80: ADD A,B (rule R119). -/
def execAddB (s : State) : Outcome := .next (aluReg .add .b s)

/-- 81: ADD A,C (rule R119). -/
def execAddC (s : State) : Outcome := .next (aluReg .add .c s)

/-- 82: ADD A,D (rule R119). -/
def execAddD (s : State) : Outcome := .next (aluReg .add .d s)

/-- 83: ADD A,E (rule R119). -/
def execAddE (s : State) : Outcome := .next (aluReg .add .e s)

/-- 84: ADD A,H (rule R119). -/
def execAddH (s : State) : Outcome := .next (aluReg .add .h s)

/-- 85: ADD A,L (rule R119). -/
def execAddL (s : State) : Outcome := .next (aluReg .add .l s)

/-- 86: ADD A,(HL) (rule R120). -/
def execAddAtHl (s : State) : Outcome := .next (aluMem .add s)

/-- 87: ADD A,A (rule R119). -/
def execAddA (s : State) : Outcome := .next (aluReg .add .a s)

/-- 88: ADC A,B (rule R122). -/
def execAdcB (s : State) : Outcome := .next (aluReg .adc .b s)

/-- 89: ADC A,C (rule R122). -/
def execAdcC (s : State) : Outcome := .next (aluReg .adc .c s)

/-- 8A: ADC A,D (rule R122). -/
def execAdcD (s : State) : Outcome := .next (aluReg .adc .d s)

/-- 8B: ADC A,E (rule R122). -/
def execAdcE (s : State) : Outcome := .next (aluReg .adc .e s)

/-- 8C: ADC A,H (rule R122). -/
def execAdcH (s : State) : Outcome := .next (aluReg .adc .h s)

/-- 8D: ADC A,L (rule R122). -/
def execAdcL (s : State) : Outcome := .next (aluReg .adc .l s)

/-- 8E: ADC A,(HL) (rule R123). -/
def execAdcAtHl (s : State) : Outcome := .next (aluMem .adc s)

/-- 8F: ADC A,A (rule R122). -/
def execAdcA (s : State) : Outcome := .next (aluReg .adc .a s)

/-- 90: SUB B (rule R125). -/
def execSubB (s : State) : Outcome := .next (aluReg .sub .b s)

/-- 91: SUB C (rule R125). -/
def execSubC (s : State) : Outcome := .next (aluReg .sub .c s)

/-- 92: SUB D (rule R125). -/
def execSubD (s : State) : Outcome := .next (aluReg .sub .d s)

/-- 93: SUB E (rule R125). -/
def execSubE (s : State) : Outcome := .next (aluReg .sub .e s)

/-- 94: SUB H (rule R125). -/
def execSubH (s : State) : Outcome := .next (aluReg .sub .h s)

/-- 95: SUB L (rule R125). -/
def execSubL (s : State) : Outcome := .next (aluReg .sub .l s)

/-- 96: SUB (HL) (rule R126). -/
def execSubAtHl (s : State) : Outcome := .next (aluMem .sub s)

/-- 97: SUB A (rule R125). -/
def execSubA (s : State) : Outcome := .next (aluReg .sub .a s)

/-- 98: SBC A,B (rule R128). -/
def execSbcB (s : State) : Outcome := .next (aluReg .sbc .b s)

/-- 99: SBC A,C (rule R128). -/
def execSbcC (s : State) : Outcome := .next (aluReg .sbc .c s)

/-- 9A: SBC A,D (rule R128). -/
def execSbcD (s : State) : Outcome := .next (aluReg .sbc .d s)

/-- 9B: SBC A,E (rule R128). -/
def execSbcE (s : State) : Outcome := .next (aluReg .sbc .e s)

/-- 9C: SBC A,H (rule R128). -/
def execSbcH (s : State) : Outcome := .next (aluReg .sbc .h s)

/-- 9D: SBC A,L (rule R128). -/
def execSbcL (s : State) : Outcome := .next (aluReg .sbc .l s)

/-- 9E: SBC A,(HL) (rule R129). -/
def execSbcAtHl (s : State) : Outcome := .next (aluMem .sbc s)

/-- 9F: SBC A,A (rule R128). -/
def execSbcA (s : State) : Outcome := .next (aluReg .sbc .a s)

/-- A0: AND B (rule R132). -/
def execAndB (s : State) : Outcome := .next (aluReg .and .b s)

/-- A1: AND C (rule R132). -/
def execAndC (s : State) : Outcome := .next (aluReg .and .c s)

/-- A2: AND D (rule R132). -/
def execAndD (s : State) : Outcome := .next (aluReg .and .d s)

/-- A3: AND E (rule R132). -/
def execAndE (s : State) : Outcome := .next (aluReg .and .e s)

/-- A4: AND H (rule R132). -/
def execAndH (s : State) : Outcome := .next (aluReg .and .h s)

/-- A5: AND L (rule R132). -/
def execAndL (s : State) : Outcome := .next (aluReg .and .l s)

/-- A6: AND (HL) (rule R133). -/
def execAndAtHl (s : State) : Outcome := .next (aluMem .and s)

/-- A7: AND A (rule R132). -/
def execAndA (s : State) : Outcome := .next (aluReg .and .a s)

/-- A8: XOR B (rule R135). -/
def execXorB (s : State) : Outcome := .next (aluReg .xor .b s)

/-- A9: XOR C (rule R135). -/
def execXorC (s : State) : Outcome := .next (aluReg .xor .c s)

/-- AA: XOR D (rule R135). -/
def execXorD (s : State) : Outcome := .next (aluReg .xor .d s)

/-- AB: XOR E (rule R135). -/
def execXorE (s : State) : Outcome := .next (aluReg .xor .e s)

/-- AC: XOR H (rule R135). -/
def execXorH (s : State) : Outcome := .next (aluReg .xor .h s)

/-- AD: XOR L (rule R135). -/
def execXorL (s : State) : Outcome := .next (aluReg .xor .l s)

/-- AE: XOR (HL) (rule R136). -/
def execXorAtHl (s : State) : Outcome := .next (aluMem .xor s)

/-- AF: XOR A (rule R135). -/
def execXorA (s : State) : Outcome := .next (aluReg .xor .a s)

/-- B0: OR B (rule R138). -/
def execOrB (s : State) : Outcome := .next (aluReg .or .b s)

/-- B1: OR C (rule R138). -/
def execOrC (s : State) : Outcome := .next (aluReg .or .c s)

/-- B2: OR D (rule R138). -/
def execOrD (s : State) : Outcome := .next (aluReg .or .d s)

/-- B3: OR E (rule R138). -/
def execOrE (s : State) : Outcome := .next (aluReg .or .e s)

/-- B4: OR H (rule R138). -/
def execOrH (s : State) : Outcome := .next (aluReg .or .h s)

/-- B5: OR L (rule R138). -/
def execOrL (s : State) : Outcome := .next (aluReg .or .l s)

/-- B6: OR (HL) (rule R139). -/
def execOrAtHl (s : State) : Outcome := .next (aluMem .or s)

/-- B7: OR A (rule R138). -/
def execOrA (s : State) : Outcome := .next (aluReg .or .a s)

/-- B8: CP B (rule R141). -/
def execCpB (s : State) : Outcome := .next (aluReg .cp .b s)

/-- B9: CP C (rule R141). -/
def execCpC (s : State) : Outcome := .next (aluReg .cp .c s)

/-- BA: CP D (rule R141). -/
def execCpD (s : State) : Outcome := .next (aluReg .cp .d s)

/-- BB: CP E (rule R141). -/
def execCpE (s : State) : Outcome := .next (aluReg .cp .e s)

/-- BC: CP H (rule R141). -/
def execCpH (s : State) : Outcome := .next (aluReg .cp .h s)

/-- BD: CP L (rule R141). -/
def execCpL (s : State) : Outcome := .next (aluReg .cp .l s)

/-- BE: CP (HL) (rule R142). -/
def execCpAtHl (s : State) : Outcome := .next (aluMem .cp s)

/-- BF: CP A (rule R141). -/
def execCpA (s : State) : Outcome := .next (aluReg .cp .a s)

/-- C6: ADD A,n (rule R121). -/
def execAddN (n : Byte) (s : State) : Outcome := .next (aluByte .add n s)

/-- CE: ADC A,n (rule R124). -/
def execAdcN (n : Byte) (s : State) : Outcome := .next (aluByte .adc n s)

/-- D6: SUB n (rule R127). -/
def execSubN (n : Byte) (s : State) : Outcome := .next (aluByte .sub n s)

/-- DE: SBC A,n (rule R130). -/
def execSbcN (n : Byte) (s : State) : Outcome := .next (aluByte .sbc n s)

/-- E6: AND n (rule R134). -/
def execAndN (n : Byte) (s : State) : Outcome := .next (aluByte .and n s)

/-- EE: XOR n (rule R137). -/
def execXorN (n : Byte) (s : State) : Outcome := .next (aluByte .xor n s)

/-- F6: OR n (rule R140). -/
def execOrN (n : Byte) (s : State) : Outcome := .next (aluByte .or n s)

/-- FE: CP n (rule R143). -/
def execCpN (n : Byte) (s : State) : Outcome := .next (aluByte .cp n s)

end Sys2Proof.Machine
end

