-- ==== Sys2Proof/Machine/Cb.lean ====
section
/-! DEFINITION. The meanings of the extended table (47_cb.md rules R180 to R203), after the
fetches of opcode and operands. -/

namespace Sys2Proof.Machine

/-! ## Shared operations -/

/-- A rotate or shift of a register (rule R181). -/
def rotReg (op : RotOp) (r : Reg8) (s : State) : State :=
  let x := rotOp op (s.reg r) s.flags
  { s.setReg r x.1 with flags := x.2 }

/-- A rotate or shift of the byte at HL: a read, then a write (rule R181). -/
def rotMem (op : RotOp) (s : State) : State :=
  let v := read8 s.hl s
  let x := rotOp op v.1 s.flags
  { write8 s.hl x.1 v.2 with flags := x.2 }

/-- BIT on a register (rule R198). -/
def bitReg (b : Fin 8) (r : Reg8) (s : State) : State := { s with flags := bitFlags b (s.reg r) s.flags }

/-- BIT on the byte at HL, with the internal M-cycle that `BIT_HL_TICKS` = 16 adds (rule R199). -/
def bitMem (b : Fin 8) (s : State) : State :=
  let v := read8 s.hl s
  let s1 : State := { v.2 with flags := bitFlags b v.1 s.flags }
  match s.cfg.bitHlTicks with
  | .twelve => s1
  | .sixteen => internal s1

/-- A change of the byte at HL that writes no flag: the write always happens (rules R201, R203). -/
def changeMem (f : Byte → Byte) (s : State) : State := write8 s.hl (f (read8 s.hl s).1) (read8 s.hl s).2

/-! ## The instructions -/

/-- CB 00: RLC B (rule R182). -/
def execRlcB (s : State) : Outcome := .next (rotReg .rlc .b s)

/-- CB 01: RLC C (rule R182). -/
def execRlcC (s : State) : Outcome := .next (rotReg .rlc .c s)

/-- CB 02: RLC D (rule R182). -/
def execRlcD (s : State) : Outcome := .next (rotReg .rlc .d s)

/-- CB 03: RLC E (rule R182). -/
def execRlcE (s : State) : Outcome := .next (rotReg .rlc .e s)

/-- CB 04: RLC H (rule R182). -/
def execRlcH (s : State) : Outcome := .next (rotReg .rlc .h s)

/-- CB 05: RLC L (rule R182). -/
def execRlcL (s : State) : Outcome := .next (rotReg .rlc .l s)

/-- CB 06: RLC (HL) (rule R183). -/
def execRlcAtHl (s : State) : Outcome := .next (rotMem .rlc s)

/-- CB 07: RLC A (rule R182). -/
def execRlcA (s : State) : Outcome := .next (rotReg .rlc .a s)

/-- CB 08: RRC B (rule R184). -/
def execRrcB (s : State) : Outcome := .next (rotReg .rrc .b s)

/-- CB 09: RRC C (rule R184). -/
def execRrcC (s : State) : Outcome := .next (rotReg .rrc .c s)

/-- CB 0A: RRC D (rule R184). -/
def execRrcD (s : State) : Outcome := .next (rotReg .rrc .d s)

/-- CB 0B: RRC E (rule R184). -/
def execRrcE (s : State) : Outcome := .next (rotReg .rrc .e s)

/-- CB 0C: RRC H (rule R184). -/
def execRrcH (s : State) : Outcome := .next (rotReg .rrc .h s)

/-- CB 0D: RRC L (rule R184). -/
def execRrcL (s : State) : Outcome := .next (rotReg .rrc .l s)

/-- CB 0E: RRC (HL) (rule R185). -/
def execRrcAtHl (s : State) : Outcome := .next (rotMem .rrc s)

/-- CB 0F: RRC A (rule R184). -/
def execRrcA (s : State) : Outcome := .next (rotReg .rrc .a s)

/-- CB 10: RL B (rule R186). -/
def execRlB (s : State) : Outcome := .next (rotReg .rl .b s)

/-- CB 11: RL C (rule R186). -/
def execRlC (s : State) : Outcome := .next (rotReg .rl .c s)

/-- CB 12: RL D (rule R186). -/
def execRlD (s : State) : Outcome := .next (rotReg .rl .d s)

/-- CB 13: RL E (rule R186). -/
def execRlE (s : State) : Outcome := .next (rotReg .rl .e s)

/-- CB 14: RL H (rule R186). -/
def execRlH (s : State) : Outcome := .next (rotReg .rl .h s)

/-- CB 15: RL L (rule R186). -/
def execRlL (s : State) : Outcome := .next (rotReg .rl .l s)

/-- CB 16: RL (HL) (rule R187). -/
def execRlAtHl (s : State) : Outcome := .next (rotMem .rl s)

/-- CB 17: RL A (rule R186). -/
def execRlA (s : State) : Outcome := .next (rotReg .rl .a s)

/-- CB 18: RR B (rule R188). -/
def execRrB (s : State) : Outcome := .next (rotReg .rr .b s)

/-- CB 19: RR C (rule R188). -/
def execRrC (s : State) : Outcome := .next (rotReg .rr .c s)

/-- CB 1A: RR D (rule R188). -/
def execRrD (s : State) : Outcome := .next (rotReg .rr .d s)

/-- CB 1B: RR E (rule R188). -/
def execRrE (s : State) : Outcome := .next (rotReg .rr .e s)

/-- CB 1C: RR H (rule R188). -/
def execRrH (s : State) : Outcome := .next (rotReg .rr .h s)

/-- CB 1D: RR L (rule R188). -/
def execRrL (s : State) : Outcome := .next (rotReg .rr .l s)

/-- CB 1E: RR (HL) (rule R189). -/
def execRrAtHl (s : State) : Outcome := .next (rotMem .rr s)

/-- CB 1F: RR A (rule R188). -/
def execRrA (s : State) : Outcome := .next (rotReg .rr .a s)

/-- CB 20: SLA B (rule R190). -/
def execSlaB (s : State) : Outcome := .next (rotReg .sla .b s)

/-- CB 21: SLA C (rule R190). -/
def execSlaC (s : State) : Outcome := .next (rotReg .sla .c s)

/-- CB 22: SLA D (rule R190). -/
def execSlaD (s : State) : Outcome := .next (rotReg .sla .d s)

/-- CB 23: SLA E (rule R190). -/
def execSlaE (s : State) : Outcome := .next (rotReg .sla .e s)

/-- CB 24: SLA H (rule R190). -/
def execSlaH (s : State) : Outcome := .next (rotReg .sla .h s)

/-- CB 25: SLA L (rule R190). -/
def execSlaL (s : State) : Outcome := .next (rotReg .sla .l s)

/-- CB 26: SLA (HL) (rule R191). -/
def execSlaAtHl (s : State) : Outcome := .next (rotMem .sla s)

/-- CB 27: SLA A (rule R190). -/
def execSlaA (s : State) : Outcome := .next (rotReg .sla .a s)

/-- CB 28: SRA B (rule R192). -/
def execSraB (s : State) : Outcome := .next (rotReg .sra .b s)

/-- CB 29: SRA C (rule R192). -/
def execSraC (s : State) : Outcome := .next (rotReg .sra .c s)

/-- CB 2A: SRA D (rule R192). -/
def execSraD (s : State) : Outcome := .next (rotReg .sra .d s)

/-- CB 2B: SRA E (rule R192). -/
def execSraE (s : State) : Outcome := .next (rotReg .sra .e s)

/-- CB 2C: SRA H (rule R192). -/
def execSraH (s : State) : Outcome := .next (rotReg .sra .h s)

/-- CB 2D: SRA L (rule R192). -/
def execSraL (s : State) : Outcome := .next (rotReg .sra .l s)

/-- CB 2E: SRA (HL) (rule R193). -/
def execSraAtHl (s : State) : Outcome := .next (rotMem .sra s)

/-- CB 2F: SRA A (rule R192). -/
def execSraA (s : State) : Outcome := .next (rotReg .sra .a s)

/-- CB 30: SWAP B (rule R194). -/
def execSwapB (s : State) : Outcome := .next (rotReg .swap .b s)

/-- CB 31: SWAP C (rule R194). -/
def execSwapC (s : State) : Outcome := .next (rotReg .swap .c s)

/-- CB 32: SWAP D (rule R194). -/
def execSwapD (s : State) : Outcome := .next (rotReg .swap .d s)

/-- CB 33: SWAP E (rule R194). -/
def execSwapE (s : State) : Outcome := .next (rotReg .swap .e s)

/-- CB 34: SWAP H (rule R194). -/
def execSwapH (s : State) : Outcome := .next (rotReg .swap .h s)

/-- CB 35: SWAP L (rule R194). -/
def execSwapL (s : State) : Outcome := .next (rotReg .swap .l s)

/-- CB 36: SWAP (HL) (rule R195). -/
def execSwapAtHl (s : State) : Outcome := .next (rotMem .swap s)

/-- CB 37: SWAP A (rule R194). -/
def execSwapA (s : State) : Outcome := .next (rotReg .swap .a s)

/-- CB 38: SRL B (rule R196). -/
def execSrlB (s : State) : Outcome := .next (rotReg .srl .b s)

/-- CB 39: SRL C (rule R196). -/
def execSrlC (s : State) : Outcome := .next (rotReg .srl .c s)

/-- CB 3A: SRL D (rule R196). -/
def execSrlD (s : State) : Outcome := .next (rotReg .srl .d s)

/-- CB 3B: SRL E (rule R196). -/
def execSrlE (s : State) : Outcome := .next (rotReg .srl .e s)

/-- CB 3C: SRL H (rule R196). -/
def execSrlH (s : State) : Outcome := .next (rotReg .srl .h s)

/-- CB 3D: SRL L (rule R196). -/
def execSrlL (s : State) : Outcome := .next (rotReg .srl .l s)

/-- CB 3E: SRL (HL) (rule R197). -/
def execSrlAtHl (s : State) : Outcome := .next (rotMem .srl s)

/-- CB 3F: SRL A (rule R196). -/
def execSrlA (s : State) : Outcome := .next (rotReg .srl .a s)

/-- CB 40: BIT 0,B (rule R198). -/
def execBit0B (s : State) : Outcome := .next (bitReg 0 .b s)

/-- CB 41: BIT 0,C (rule R198). -/
def execBit0C (s : State) : Outcome := .next (bitReg 0 .c s)

/-- CB 42: BIT 0,D (rule R198). -/
def execBit0D (s : State) : Outcome := .next (bitReg 0 .d s)

/-- CB 43: BIT 0,E (rule R198). -/
def execBit0E (s : State) : Outcome := .next (bitReg 0 .e s)

/-- CB 44: BIT 0,H (rule R198). -/
def execBit0H (s : State) : Outcome := .next (bitReg 0 .h s)

/-- CB 45: BIT 0,L (rule R198). -/
def execBit0L (s : State) : Outcome := .next (bitReg 0 .l s)

/-- CB 46: BIT 0,(HL) (rule R199). -/
def execBit0AtHl (s : State) : Outcome := .next (bitMem 0 s)

/-- CB 47: BIT 0,A (rule R198). -/
def execBit0A (s : State) : Outcome := .next (bitReg 0 .a s)

/-- CB 48: BIT 1,B (rule R198). -/
def execBit1B (s : State) : Outcome := .next (bitReg 1 .b s)

/-- CB 49: BIT 1,C (rule R198). -/
def execBit1C (s : State) : Outcome := .next (bitReg 1 .c s)

/-- CB 4A: BIT 1,D (rule R198). -/
def execBit1D (s : State) : Outcome := .next (bitReg 1 .d s)

/-- CB 4B: BIT 1,E (rule R198). -/
def execBit1E (s : State) : Outcome := .next (bitReg 1 .e s)

/-- CB 4C: BIT 1,H (rule R198). -/
def execBit1H (s : State) : Outcome := .next (bitReg 1 .h s)

/-- CB 4D: BIT 1,L (rule R198). -/
def execBit1L (s : State) : Outcome := .next (bitReg 1 .l s)

/-- CB 4E: BIT 1,(HL) (rule R199). -/
def execBit1AtHl (s : State) : Outcome := .next (bitMem 1 s)

/-- CB 4F: BIT 1,A (rule R198). -/
def execBit1A (s : State) : Outcome := .next (bitReg 1 .a s)

/-- CB 50: BIT 2,B (rule R198). -/
def execBit2B (s : State) : Outcome := .next (bitReg 2 .b s)

/-- CB 51: BIT 2,C (rule R198). -/
def execBit2C (s : State) : Outcome := .next (bitReg 2 .c s)

/-- CB 52: BIT 2,D (rule R198). -/
def execBit2D (s : State) : Outcome := .next (bitReg 2 .d s)

/-- CB 53: BIT 2,E (rule R198). -/
def execBit2E (s : State) : Outcome := .next (bitReg 2 .e s)

/-- CB 54: BIT 2,H (rule R198). -/
def execBit2H (s : State) : Outcome := .next (bitReg 2 .h s)

/-- CB 55: BIT 2,L (rule R198). -/
def execBit2L (s : State) : Outcome := .next (bitReg 2 .l s)

/-- CB 56: BIT 2,(HL) (rule R199). -/
def execBit2AtHl (s : State) : Outcome := .next (bitMem 2 s)

/-- CB 57: BIT 2,A (rule R198). -/
def execBit2A (s : State) : Outcome := .next (bitReg 2 .a s)

/-- CB 58: BIT 3,B (rule R198). -/
def execBit3B (s : State) : Outcome := .next (bitReg 3 .b s)

/-- CB 59: BIT 3,C (rule R198). -/
def execBit3C (s : State) : Outcome := .next (bitReg 3 .c s)

/-- CB 5A: BIT 3,D (rule R198). -/
def execBit3D (s : State) : Outcome := .next (bitReg 3 .d s)

/-- CB 5B: BIT 3,E (rule R198). -/
def execBit3E (s : State) : Outcome := .next (bitReg 3 .e s)

/-- CB 5C: BIT 3,H (rule R198). -/
def execBit3H (s : State) : Outcome := .next (bitReg 3 .h s)

/-- CB 5D: BIT 3,L (rule R198). -/
def execBit3L (s : State) : Outcome := .next (bitReg 3 .l s)

/-- CB 5E: BIT 3,(HL) (rule R199). -/
def execBit3AtHl (s : State) : Outcome := .next (bitMem 3 s)

/-- CB 5F: BIT 3,A (rule R198). -/
def execBit3A (s : State) : Outcome := .next (bitReg 3 .a s)

/-- CB 60: BIT 4,B (rule R198). -/
def execBit4B (s : State) : Outcome := .next (bitReg 4 .b s)

/-- CB 61: BIT 4,C (rule R198). -/
def execBit4C (s : State) : Outcome := .next (bitReg 4 .c s)

/-- CB 62: BIT 4,D (rule R198). -/
def execBit4D (s : State) : Outcome := .next (bitReg 4 .d s)

/-- CB 63: BIT 4,E (rule R198). -/
def execBit4E (s : State) : Outcome := .next (bitReg 4 .e s)

/-- CB 64: BIT 4,H (rule R198). -/
def execBit4H (s : State) : Outcome := .next (bitReg 4 .h s)

/-- CB 65: BIT 4,L (rule R198). -/
def execBit4L (s : State) : Outcome := .next (bitReg 4 .l s)

/-- CB 66: BIT 4,(HL) (rule R199). -/
def execBit4AtHl (s : State) : Outcome := .next (bitMem 4 s)

/-- CB 67: BIT 4,A (rule R198). -/
def execBit4A (s : State) : Outcome := .next (bitReg 4 .a s)

/-- CB 68: BIT 5,B (rule R198). -/
def execBit5B (s : State) : Outcome := .next (bitReg 5 .b s)

/-- CB 69: BIT 5,C (rule R198). -/
def execBit5C (s : State) : Outcome := .next (bitReg 5 .c s)

/-- CB 6A: BIT 5,D (rule R198). -/
def execBit5D (s : State) : Outcome := .next (bitReg 5 .d s)

/-- CB 6B: BIT 5,E (rule R198). -/
def execBit5E (s : State) : Outcome := .next (bitReg 5 .e s)

/-- CB 6C: BIT 5,H (rule R198). -/
def execBit5H (s : State) : Outcome := .next (bitReg 5 .h s)

/-- CB 6D: BIT 5,L (rule R198). -/
def execBit5L (s : State) : Outcome := .next (bitReg 5 .l s)

/-- CB 6E: BIT 5,(HL) (rule R199). -/
def execBit5AtHl (s : State) : Outcome := .next (bitMem 5 s)

/-- CB 6F: BIT 5,A (rule R198). -/
def execBit5A (s : State) : Outcome := .next (bitReg 5 .a s)

/-- CB 70: BIT 6,B (rule R198). -/
def execBit6B (s : State) : Outcome := .next (bitReg 6 .b s)

/-- CB 71: BIT 6,C (rule R198). -/
def execBit6C (s : State) : Outcome := .next (bitReg 6 .c s)

/-- CB 72: BIT 6,D (rule R198). -/
def execBit6D (s : State) : Outcome := .next (bitReg 6 .d s)

/-- CB 73: BIT 6,E (rule R198). -/
def execBit6E (s : State) : Outcome := .next (bitReg 6 .e s)

/-- CB 74: BIT 6,H (rule R198). -/
def execBit6H (s : State) : Outcome := .next (bitReg 6 .h s)

/-- CB 75: BIT 6,L (rule R198). -/
def execBit6L (s : State) : Outcome := .next (bitReg 6 .l s)

/-- CB 76: BIT 6,(HL) (rule R199). -/
def execBit6AtHl (s : State) : Outcome := .next (bitMem 6 s)

/-- CB 77: BIT 6,A (rule R198). -/
def execBit6A (s : State) : Outcome := .next (bitReg 6 .a s)

/-- CB 78: BIT 7,B (rule R198). -/
def execBit7B (s : State) : Outcome := .next (bitReg 7 .b s)

/-- CB 79: BIT 7,C (rule R198). -/
def execBit7C (s : State) : Outcome := .next (bitReg 7 .c s)

/-- CB 7A: BIT 7,D (rule R198). -/
def execBit7D (s : State) : Outcome := .next (bitReg 7 .d s)

/-- CB 7B: BIT 7,E (rule R198). -/
def execBit7E (s : State) : Outcome := .next (bitReg 7 .e s)

/-- CB 7C: BIT 7,H (rule R198). -/
def execBit7H (s : State) : Outcome := .next (bitReg 7 .h s)

/-- CB 7D: BIT 7,L (rule R198). -/
def execBit7L (s : State) : Outcome := .next (bitReg 7 .l s)

/-- CB 7E: BIT 7,(HL) (rule R199). -/
def execBit7AtHl (s : State) : Outcome := .next (bitMem 7 s)

/-- CB 7F: BIT 7,A (rule R198). -/
def execBit7A (s : State) : Outcome := .next (bitReg 7 .a s)

/-- CB 80: RES 0,B (rule R200). -/
def execRes0B (s : State) : Outcome := .next (s.setReg .b (resBit 0 (s.reg .b)))

/-- CB 81: RES 0,C (rule R200). -/
def execRes0C (s : State) : Outcome := .next (s.setReg .c (resBit 0 (s.reg .c)))

/-- CB 82: RES 0,D (rule R200). -/
def execRes0D (s : State) : Outcome := .next (s.setReg .d (resBit 0 (s.reg .d)))

/-- CB 83: RES 0,E (rule R200). -/
def execRes0E (s : State) : Outcome := .next (s.setReg .e (resBit 0 (s.reg .e)))

/-- CB 84: RES 0,H (rule R200). -/
def execRes0H (s : State) : Outcome := .next (s.setReg .h (resBit 0 (s.reg .h)))

/-- CB 85: RES 0,L (rule R200). -/
def execRes0L (s : State) : Outcome := .next (s.setReg .l (resBit 0 (s.reg .l)))

/-- CB 86: RES 0,(HL) (rule R201). -/
def execRes0AtHl (s : State) : Outcome := .next (changeMem (resBit 0) s)

/-- CB 87: RES 0,A (rule R200). -/
def execRes0A (s : State) : Outcome := .next (s.setReg .a (resBit 0 (s.reg .a)))

/-- CB 88: RES 1,B (rule R200). -/
def execRes1B (s : State) : Outcome := .next (s.setReg .b (resBit 1 (s.reg .b)))

/-- CB 89: RES 1,C (rule R200). -/
def execRes1C (s : State) : Outcome := .next (s.setReg .c (resBit 1 (s.reg .c)))

/-- CB 8A: RES 1,D (rule R200). -/
def execRes1D (s : State) : Outcome := .next (s.setReg .d (resBit 1 (s.reg .d)))

/-- CB 8B: RES 1,E (rule R200). -/
def execRes1E (s : State) : Outcome := .next (s.setReg .e (resBit 1 (s.reg .e)))

/-- CB 8C: RES 1,H (rule R200). -/
def execRes1H (s : State) : Outcome := .next (s.setReg .h (resBit 1 (s.reg .h)))

/-- CB 8D: RES 1,L (rule R200). -/
def execRes1L (s : State) : Outcome := .next (s.setReg .l (resBit 1 (s.reg .l)))

/-- CB 8E: RES 1,(HL) (rule R201). -/
def execRes1AtHl (s : State) : Outcome := .next (changeMem (resBit 1) s)

/-- CB 8F: RES 1,A (rule R200). -/
def execRes1A (s : State) : Outcome := .next (s.setReg .a (resBit 1 (s.reg .a)))

/-- CB 90: RES 2,B (rule R200). -/
def execRes2B (s : State) : Outcome := .next (s.setReg .b (resBit 2 (s.reg .b)))

/-- CB 91: RES 2,C (rule R200). -/
def execRes2C (s : State) : Outcome := .next (s.setReg .c (resBit 2 (s.reg .c)))

/-- CB 92: RES 2,D (rule R200). -/
def execRes2D (s : State) : Outcome := .next (s.setReg .d (resBit 2 (s.reg .d)))

/-- CB 93: RES 2,E (rule R200). -/
def execRes2E (s : State) : Outcome := .next (s.setReg .e (resBit 2 (s.reg .e)))

/-- CB 94: RES 2,H (rule R200). -/
def execRes2H (s : State) : Outcome := .next (s.setReg .h (resBit 2 (s.reg .h)))

/-- CB 95: RES 2,L (rule R200). -/
def execRes2L (s : State) : Outcome := .next (s.setReg .l (resBit 2 (s.reg .l)))

/-- CB 96: RES 2,(HL) (rule R201). -/
def execRes2AtHl (s : State) : Outcome := .next (changeMem (resBit 2) s)

/-- CB 97: RES 2,A (rule R200). -/
def execRes2A (s : State) : Outcome := .next (s.setReg .a (resBit 2 (s.reg .a)))

/-- CB 98: RES 3,B (rule R200). -/
def execRes3B (s : State) : Outcome := .next (s.setReg .b (resBit 3 (s.reg .b)))

/-- CB 99: RES 3,C (rule R200). -/
def execRes3C (s : State) : Outcome := .next (s.setReg .c (resBit 3 (s.reg .c)))

/-- CB 9A: RES 3,D (rule R200). -/
def execRes3D (s : State) : Outcome := .next (s.setReg .d (resBit 3 (s.reg .d)))

/-- CB 9B: RES 3,E (rule R200). -/
def execRes3E (s : State) : Outcome := .next (s.setReg .e (resBit 3 (s.reg .e)))

/-- CB 9C: RES 3,H (rule R200). -/
def execRes3H (s : State) : Outcome := .next (s.setReg .h (resBit 3 (s.reg .h)))

/-- CB 9D: RES 3,L (rule R200). -/
def execRes3L (s : State) : Outcome := .next (s.setReg .l (resBit 3 (s.reg .l)))

/-- CB 9E: RES 3,(HL) (rule R201). -/
def execRes3AtHl (s : State) : Outcome := .next (changeMem (resBit 3) s)

/-- CB 9F: RES 3,A (rule R200). -/
def execRes3A (s : State) : Outcome := .next (s.setReg .a (resBit 3 (s.reg .a)))

/-- CB A0: RES 4,B (rule R200). -/
def execRes4B (s : State) : Outcome := .next (s.setReg .b (resBit 4 (s.reg .b)))

/-- CB A1: RES 4,C (rule R200). -/
def execRes4C (s : State) : Outcome := .next (s.setReg .c (resBit 4 (s.reg .c)))

/-- CB A2: RES 4,D (rule R200). -/
def execRes4D (s : State) : Outcome := .next (s.setReg .d (resBit 4 (s.reg .d)))

/-- CB A3: RES 4,E (rule R200). -/
def execRes4E (s : State) : Outcome := .next (s.setReg .e (resBit 4 (s.reg .e)))

/-- CB A4: RES 4,H (rule R200). -/
def execRes4H (s : State) : Outcome := .next (s.setReg .h (resBit 4 (s.reg .h)))

/-- CB A5: RES 4,L (rule R200). -/
def execRes4L (s : State) : Outcome := .next (s.setReg .l (resBit 4 (s.reg .l)))

/-- CB A6: RES 4,(HL) (rule R201). -/
def execRes4AtHl (s : State) : Outcome := .next (changeMem (resBit 4) s)

/-- CB A7: RES 4,A (rule R200). -/
def execRes4A (s : State) : Outcome := .next (s.setReg .a (resBit 4 (s.reg .a)))

/-- CB A8: RES 5,B (rule R200). -/
def execRes5B (s : State) : Outcome := .next (s.setReg .b (resBit 5 (s.reg .b)))

/-- CB A9: RES 5,C (rule R200). -/
def execRes5C (s : State) : Outcome := .next (s.setReg .c (resBit 5 (s.reg .c)))

/-- CB AA: RES 5,D (rule R200). -/
def execRes5D (s : State) : Outcome := .next (s.setReg .d (resBit 5 (s.reg .d)))

/-- CB AB: RES 5,E (rule R200). -/
def execRes5E (s : State) : Outcome := .next (s.setReg .e (resBit 5 (s.reg .e)))

/-- CB AC: RES 5,H (rule R200). -/
def execRes5H (s : State) : Outcome := .next (s.setReg .h (resBit 5 (s.reg .h)))

/-- CB AD: RES 5,L (rule R200). -/
def execRes5L (s : State) : Outcome := .next (s.setReg .l (resBit 5 (s.reg .l)))

/-- CB AE: RES 5,(HL) (rule R201). -/
def execRes5AtHl (s : State) : Outcome := .next (changeMem (resBit 5) s)

/-- CB AF: RES 5,A (rule R200). -/
def execRes5A (s : State) : Outcome := .next (s.setReg .a (resBit 5 (s.reg .a)))

/-- CB B0: RES 6,B (rule R200). -/
def execRes6B (s : State) : Outcome := .next (s.setReg .b (resBit 6 (s.reg .b)))

/-- CB B1: RES 6,C (rule R200). -/
def execRes6C (s : State) : Outcome := .next (s.setReg .c (resBit 6 (s.reg .c)))

/-- CB B2: RES 6,D (rule R200). -/
def execRes6D (s : State) : Outcome := .next (s.setReg .d (resBit 6 (s.reg .d)))

/-- CB B3: RES 6,E (rule R200). -/
def execRes6E (s : State) : Outcome := .next (s.setReg .e (resBit 6 (s.reg .e)))

/-- CB B4: RES 6,H (rule R200). -/
def execRes6H (s : State) : Outcome := .next (s.setReg .h (resBit 6 (s.reg .h)))

/-- CB B5: RES 6,L (rule R200). -/
def execRes6L (s : State) : Outcome := .next (s.setReg .l (resBit 6 (s.reg .l)))

/-- CB B6: RES 6,(HL) (rule R201). -/
def execRes6AtHl (s : State) : Outcome := .next (changeMem (resBit 6) s)

/-- CB B7: RES 6,A (rule R200). -/
def execRes6A (s : State) : Outcome := .next (s.setReg .a (resBit 6 (s.reg .a)))

/-- CB B8: RES 7,B (rule R200). -/
def execRes7B (s : State) : Outcome := .next (s.setReg .b (resBit 7 (s.reg .b)))

/-- CB B9: RES 7,C (rule R200). -/
def execRes7C (s : State) : Outcome := .next (s.setReg .c (resBit 7 (s.reg .c)))

/-- CB BA: RES 7,D (rule R200). -/
def execRes7D (s : State) : Outcome := .next (s.setReg .d (resBit 7 (s.reg .d)))

/-- CB BB: RES 7,E (rule R200). -/
def execRes7E (s : State) : Outcome := .next (s.setReg .e (resBit 7 (s.reg .e)))

/-- CB BC: RES 7,H (rule R200). -/
def execRes7H (s : State) : Outcome := .next (s.setReg .h (resBit 7 (s.reg .h)))

/-- CB BD: RES 7,L (rule R200). -/
def execRes7L (s : State) : Outcome := .next (s.setReg .l (resBit 7 (s.reg .l)))

/-- CB BE: RES 7,(HL) (rule R201). -/
def execRes7AtHl (s : State) : Outcome := .next (changeMem (resBit 7) s)

/-- CB BF: RES 7,A (rule R200). -/
def execRes7A (s : State) : Outcome := .next (s.setReg .a (resBit 7 (s.reg .a)))

/-- CB C0: SET 0,B (rule R202). -/
def execSet0B (s : State) : Outcome := .next (s.setReg .b (setBit 0 (s.reg .b)))

/-- CB C1: SET 0,C (rule R202). -/
def execSet0C (s : State) : Outcome := .next (s.setReg .c (setBit 0 (s.reg .c)))

/-- CB C2: SET 0,D (rule R202). -/
def execSet0D (s : State) : Outcome := .next (s.setReg .d (setBit 0 (s.reg .d)))

/-- CB C3: SET 0,E (rule R202). -/
def execSet0E (s : State) : Outcome := .next (s.setReg .e (setBit 0 (s.reg .e)))

/-- CB C4: SET 0,H (rule R202). -/
def execSet0H (s : State) : Outcome := .next (s.setReg .h (setBit 0 (s.reg .h)))

/-- CB C5: SET 0,L (rule R202). -/
def execSet0L (s : State) : Outcome := .next (s.setReg .l (setBit 0 (s.reg .l)))

/-- CB C6: SET 0,(HL) (rule R203). -/
def execSet0AtHl (s : State) : Outcome := .next (changeMem (setBit 0) s)

/-- CB C7: SET 0,A (rule R202). -/
def execSet0A (s : State) : Outcome := .next (s.setReg .a (setBit 0 (s.reg .a)))

/-- CB C8: SET 1,B (rule R202). -/
def execSet1B (s : State) : Outcome := .next (s.setReg .b (setBit 1 (s.reg .b)))

/-- CB C9: SET 1,C (rule R202). -/
def execSet1C (s : State) : Outcome := .next (s.setReg .c (setBit 1 (s.reg .c)))

/-- CB CA: SET 1,D (rule R202). -/
def execSet1D (s : State) : Outcome := .next (s.setReg .d (setBit 1 (s.reg .d)))

/-- CB CB: SET 1,E (rule R202). -/
def execSet1E (s : State) : Outcome := .next (s.setReg .e (setBit 1 (s.reg .e)))

/-- CB CC: SET 1,H (rule R202). -/
def execSet1H (s : State) : Outcome := .next (s.setReg .h (setBit 1 (s.reg .h)))

/-- CB CD: SET 1,L (rule R202). -/
def execSet1L (s : State) : Outcome := .next (s.setReg .l (setBit 1 (s.reg .l)))

/-- CB CE: SET 1,(HL) (rule R203). -/
def execSet1AtHl (s : State) : Outcome := .next (changeMem (setBit 1) s)

/-- CB CF: SET 1,A (rule R202). -/
def execSet1A (s : State) : Outcome := .next (s.setReg .a (setBit 1 (s.reg .a)))

/-- CB D0: SET 2,B (rule R202). -/
def execSet2B (s : State) : Outcome := .next (s.setReg .b (setBit 2 (s.reg .b)))

/-- CB D1: SET 2,C (rule R202). -/
def execSet2C (s : State) : Outcome := .next (s.setReg .c (setBit 2 (s.reg .c)))

/-- CB D2: SET 2,D (rule R202). -/
def execSet2D (s : State) : Outcome := .next (s.setReg .d (setBit 2 (s.reg .d)))

/-- CB D3: SET 2,E (rule R202). -/
def execSet2E (s : State) : Outcome := .next (s.setReg .e (setBit 2 (s.reg .e)))

/-- CB D4: SET 2,H (rule R202). -/
def execSet2H (s : State) : Outcome := .next (s.setReg .h (setBit 2 (s.reg .h)))

/-- CB D5: SET 2,L (rule R202). -/
def execSet2L (s : State) : Outcome := .next (s.setReg .l (setBit 2 (s.reg .l)))

/-- CB D6: SET 2,(HL) (rule R203). -/
def execSet2AtHl (s : State) : Outcome := .next (changeMem (setBit 2) s)

/-- CB D7: SET 2,A (rule R202). -/
def execSet2A (s : State) : Outcome := .next (s.setReg .a (setBit 2 (s.reg .a)))

/-- CB D8: SET 3,B (rule R202). -/
def execSet3B (s : State) : Outcome := .next (s.setReg .b (setBit 3 (s.reg .b)))

/-- CB D9: SET 3,C (rule R202). -/
def execSet3C (s : State) : Outcome := .next (s.setReg .c (setBit 3 (s.reg .c)))

/-- CB DA: SET 3,D (rule R202). -/
def execSet3D (s : State) : Outcome := .next (s.setReg .d (setBit 3 (s.reg .d)))

/-- CB DB: SET 3,E (rule R202). -/
def execSet3E (s : State) : Outcome := .next (s.setReg .e (setBit 3 (s.reg .e)))

/-- CB DC: SET 3,H (rule R202). -/
def execSet3H (s : State) : Outcome := .next (s.setReg .h (setBit 3 (s.reg .h)))

/-- CB DD: SET 3,L (rule R202). -/
def execSet3L (s : State) : Outcome := .next (s.setReg .l (setBit 3 (s.reg .l)))

/-- CB DE: SET 3,(HL) (rule R203). -/
def execSet3AtHl (s : State) : Outcome := .next (changeMem (setBit 3) s)

/-- CB DF: SET 3,A (rule R202). -/
def execSet3A (s : State) : Outcome := .next (s.setReg .a (setBit 3 (s.reg .a)))

/-- CB E0: SET 4,B (rule R202). -/
def execSet4B (s : State) : Outcome := .next (s.setReg .b (setBit 4 (s.reg .b)))

/-- CB E1: SET 4,C (rule R202). -/
def execSet4C (s : State) : Outcome := .next (s.setReg .c (setBit 4 (s.reg .c)))

/-- CB E2: SET 4,D (rule R202). -/
def execSet4D (s : State) : Outcome := .next (s.setReg .d (setBit 4 (s.reg .d)))

/-- CB E3: SET 4,E (rule R202). -/
def execSet4E (s : State) : Outcome := .next (s.setReg .e (setBit 4 (s.reg .e)))

/-- CB E4: SET 4,H (rule R202). -/
def execSet4H (s : State) : Outcome := .next (s.setReg .h (setBit 4 (s.reg .h)))

/-- CB E5: SET 4,L (rule R202). -/
def execSet4L (s : State) : Outcome := .next (s.setReg .l (setBit 4 (s.reg .l)))

/-- CB E6: SET 4,(HL) (rule R203). -/
def execSet4AtHl (s : State) : Outcome := .next (changeMem (setBit 4) s)

/-- CB E7: SET 4,A (rule R202). -/
def execSet4A (s : State) : Outcome := .next (s.setReg .a (setBit 4 (s.reg .a)))

/-- CB E8: SET 5,B (rule R202). -/
def execSet5B (s : State) : Outcome := .next (s.setReg .b (setBit 5 (s.reg .b)))

/-- CB E9: SET 5,C (rule R202). -/
def execSet5C (s : State) : Outcome := .next (s.setReg .c (setBit 5 (s.reg .c)))

/-- CB EA: SET 5,D (rule R202). -/
def execSet5D (s : State) : Outcome := .next (s.setReg .d (setBit 5 (s.reg .d)))

/-- CB EB: SET 5,E (rule R202). -/
def execSet5E (s : State) : Outcome := .next (s.setReg .e (setBit 5 (s.reg .e)))

/-- CB EC: SET 5,H (rule R202). -/
def execSet5H (s : State) : Outcome := .next (s.setReg .h (setBit 5 (s.reg .h)))

/-- CB ED: SET 5,L (rule R202). -/
def execSet5L (s : State) : Outcome := .next (s.setReg .l (setBit 5 (s.reg .l)))

/-- CB EE: SET 5,(HL) (rule R203). -/
def execSet5AtHl (s : State) : Outcome := .next (changeMem (setBit 5) s)

/-- CB EF: SET 5,A (rule R202). -/
def execSet5A (s : State) : Outcome := .next (s.setReg .a (setBit 5 (s.reg .a)))

/-- CB F0: SET 6,B (rule R202). -/
def execSet6B (s : State) : Outcome := .next (s.setReg .b (setBit 6 (s.reg .b)))

/-- CB F1: SET 6,C (rule R202). -/
def execSet6C (s : State) : Outcome := .next (s.setReg .c (setBit 6 (s.reg .c)))

/-- CB F2: SET 6,D (rule R202). -/
def execSet6D (s : State) : Outcome := .next (s.setReg .d (setBit 6 (s.reg .d)))

/-- CB F3: SET 6,E (rule R202). -/
def execSet6E (s : State) : Outcome := .next (s.setReg .e (setBit 6 (s.reg .e)))

/-- CB F4: SET 6,H (rule R202). -/
def execSet6H (s : State) : Outcome := .next (s.setReg .h (setBit 6 (s.reg .h)))

/-- CB F5: SET 6,L (rule R202). -/
def execSet6L (s : State) : Outcome := .next (s.setReg .l (setBit 6 (s.reg .l)))

/-- CB F6: SET 6,(HL) (rule R203). -/
def execSet6AtHl (s : State) : Outcome := .next (changeMem (setBit 6) s)

/-- CB F7: SET 6,A (rule R202). -/
def execSet6A (s : State) : Outcome := .next (s.setReg .a (setBit 6 (s.reg .a)))

/-- CB F8: SET 7,B (rule R202). -/
def execSet7B (s : State) : Outcome := .next (s.setReg .b (setBit 7 (s.reg .b)))

/-- CB F9: SET 7,C (rule R202). -/
def execSet7C (s : State) : Outcome := .next (s.setReg .c (setBit 7 (s.reg .c)))

/-- CB FA: SET 7,D (rule R202). -/
def execSet7D (s : State) : Outcome := .next (s.setReg .d (setBit 7 (s.reg .d)))

/-- CB FB: SET 7,E (rule R202). -/
def execSet7E (s : State) : Outcome := .next (s.setReg .e (setBit 7 (s.reg .e)))

/-- CB FC: SET 7,H (rule R202). -/
def execSet7H (s : State) : Outcome := .next (s.setReg .h (setBit 7 (s.reg .h)))

/-- CB FD: SET 7,L (rule R202). -/
def execSet7L (s : State) : Outcome := .next (s.setReg .l (setBit 7 (s.reg .l)))

/-- CB FE: SET 7,(HL) (rule R203). -/
def execSet7AtHl (s : State) : Outcome := .next (changeMem (setBit 7) s)

/-- CB FF: SET 7,A (rule R202). -/
def execSet7A (s : State) : Outcome := .next (s.setReg .a (setBit 7 (s.reg .a)))

end Sys2Proof.Machine
end

