-- ==== Sys2Proof/Machine/Control.lean ====
section
/-! DEFINITION. The meanings of the jumps, calls, returns and restarts (45_control.md rules R161 to R172), after the
fetches of opcode and operands. -/

namespace Sys2Proof.Machine

/-! ## Shared operations -/

/-- `Internal(); PC <- target` (rules R162, R165). -/
def jump (target : Word) (s : State) : State := { internal s with pc := target }

/-- A jump when the condition holds (rules R163, R166). -/
def jumpIf (cc : Cond) (target : Word) (s : State) : State := if s.cond cc then jump target s else s

/-- `Internal(); Push16(PC); PC <- target` (rules R167, R172). -/
def call (target : Word) (s : State) : State := { push16 s.pc (internal s) with pc := target }

/-- A call when the condition holds (rule R168). -/
def callIf (cc : Cond) (target : Word) (s : State) : State := if s.cond cc then call target s else s

/-- A return when the condition holds; the internal M-cycle of the test is spent either way (rule R170). -/
def returnIf (cc : Cond) (s : State) : State := if s.cond cc then returnFrom (internal s) else internal s

/-! ## The instructions -/

/-- 18: JR e (rule R165). -/
def execJrE (e : Byte) (s : State) : Outcome := .next (jump (s.pc + sext8 e) s)

/-- 20: JR NZ,e (rule R166). -/
def execJrNzE (e : Byte) (s : State) : Outcome := .next (jumpIf .nz (s.pc + sext8 e) s)

/-- 28: JR Z,e (rule R166). -/
def execJrZE (e : Byte) (s : State) : Outcome := .next (jumpIf .z (s.pc + sext8 e) s)

/-- 30: JR NC,e (rule R166). -/
def execJrNcE (e : Byte) (s : State) : Outcome := .next (jumpIf .nc (s.pc + sext8 e) s)

/-- 38: JR C,e (rule R166). -/
def execJrCE (e : Byte) (s : State) : Outcome := .next (jumpIf .c (s.pc + sext8 e) s)

/-- C0: RET NZ (rule R170). -/
def execRetNz (s : State) : Outcome := .next (returnIf .nz s)

/-- C2: JP NZ,nn (rule R163). -/
def execJpNzNn (nn : Word) (s : State) : Outcome := .next (jumpIf .nz nn s)

/-- C3: JP nn (rule R162). -/
def execJpNn (nn : Word) (s : State) : Outcome := .next (jump nn s)

/-- C4: CALL NZ,nn (rule R168). -/
def execCallNzNn (nn : Word) (s : State) : Outcome := .next (callIf .nz nn s)

/-- C7: RST 0x00 (rule R172). -/
def execRst00 (s : State) : Outcome := .next (call 0x0000 s)

/-- C8: RET Z (rule R170). -/
def execRetZ (s : State) : Outcome := .next (returnIf .z s)

/-- C9: RET (rule R169). -/
def execRet (s : State) : Outcome := .next (returnFrom s)

/-- CA: JP Z,nn (rule R163). -/
def execJpZNn (nn : Word) (s : State) : Outcome := .next (jumpIf .z nn s)

/-- CC: CALL Z,nn (rule R168). -/
def execCallZNn (nn : Word) (s : State) : Outcome := .next (callIf .z nn s)

/-- CD: CALL nn (rule R167). -/
def execCallNn (nn : Word) (s : State) : Outcome := .next (call nn s)

/-- CF: RST 0x08 (rule R172). -/
def execRst08 (s : State) : Outcome := .next (call 0x0008 s)

/-- D0: RET NC (rule R170). -/
def execRetNc (s : State) : Outcome := .next (returnIf .nc s)

/-- D2: JP NC,nn (rule R163). -/
def execJpNcNn (nn : Word) (s : State) : Outcome := .next (jumpIf .nc nn s)

/-- D4: CALL NC,nn (rule R168). -/
def execCallNcNn (nn : Word) (s : State) : Outcome := .next (callIf .nc nn s)

/-- D7: RST 0x10 (rule R172). -/
def execRst10 (s : State) : Outcome := .next (call 0x0010 s)

/-- D8: RET C (rule R170). -/
def execRetC (s : State) : Outcome := .next (returnIf .c s)

/-- D9: RETI (rule R171). -/
def execReti (s : State) : Outcome := .next { returnFrom s with ime := true, pend := false }

/-- DA: JP C,nn (rule R163). -/
def execJpCNn (nn : Word) (s : State) : Outcome := .next (jumpIf .c nn s)

/-- DC: CALL C,nn (rule R168). -/
def execCallCNn (nn : Word) (s : State) : Outcome := .next (callIf .c nn s)

/-- DF: RST 0x18 (rule R172). -/
def execRst18 (s : State) : Outcome := .next (call 0x0018 s)

/-- E7: RST 0x20 (rule R172). -/
def execRst20 (s : State) : Outcome := .next (call 0x0020 s)

/-- E9: JP HL (rule R164). -/
def execJpHl (s : State) : Outcome := .next { s with pc := s.hl }

/-- EF: RST 0x28 (rule R172). -/
def execRst28 (s : State) : Outcome := .next (call 0x0028 s)

/-- F7: RST 0x30 (rule R172). -/
def execRst30 (s : State) : Outcome := .next (call 0x0030 s)

/-- FF: RST 0x38 (rule R172). -/
def execRst38 (s : State) : Outcome := .next (call 0x0038 s)

end Sys2Proof.Machine
end

