-- ==== Sys2Proof/Machine/Load16.lean ====
section
/-! DEFINITION. The meanings of the 16-bit loads and the stack (42_load16_stack.md rules R109 to R116), after the
fetches of opcode and operands. -/

namespace Sys2Proof.Machine

/-! ## Shared operations -/

/-- `v <- read16(R16AF[q]); Internal(); Push16(v)` (rules R112, R113). -/
def push (q : StackPair) (s : State) : State := push16 (s.stackPair q) (internal s)

/-- `v <- Pop16(); write16(R16AF[q], v)` (rules R114, R115). -/
def pop (q : StackPair) (s : State) : State := (pop16 s).2.setStackPair q (pop16 s).1

/-- The effect of LD HL,SP+e after its fetches (rule R116). -/
def ldHlSpPlus (u : Byte) (s : State) : State :=
  let x := spPlusOp s.sp u
  (internal { s with flags := x.2 }).setPair .hl x.1

/-! ## The instructions -/

/-- 01: LD BC,nn (rule R109). -/
def execLdBcNn (nn : Word) (s : State) : Outcome := .next (s.setPair .bc nn)

/-- 08: LD (nn),SP (rule R110). -/
def execLdAtNnSp (nn : Word) (s : State) : Outcome := .next (write8 (nn + 1) (hiByte s.sp) (write8 nn (loByte s.sp) s))

/-- 11: LD DE,nn (rule R109). -/
def execLdDeNn (nn : Word) (s : State) : Outcome := .next (s.setPair .de nn)

/-- 21: LD HL,nn (rule R109). -/
def execLdHlNn (nn : Word) (s : State) : Outcome := .next (s.setPair .hl nn)

/-- 31: LD SP,nn (rule R109). -/
def execLdSpNn (nn : Word) (s : State) : Outcome := .next (s.setPair .sp nn)

/-- C1: POP BC (rule R114). -/
def execPopBc (s : State) : Outcome := .next (pop .bc s)

/-- C5: PUSH BC (rule R112). -/
def execPushBc (s : State) : Outcome := .next (push .bc s)

/-- D1: POP DE (rule R114). -/
def execPopDe (s : State) : Outcome := .next (pop .de s)

/-- D5: PUSH DE (rule R112). -/
def execPushDe (s : State) : Outcome := .next (push .de s)

/-- E1: POP HL (rule R114). -/
def execPopHl (s : State) : Outcome := .next (pop .hl s)

/-- E5: PUSH HL (rule R112). -/
def execPushHl (s : State) : Outcome := .next (push .hl s)

/-- F1: POP AF (rule R115). -/
def execPopAf (s : State) : Outcome := .next (pop .af s)

/-- F5: PUSH AF (rule R113). -/
def execPushAf (s : State) : Outcome := .next (push .af s)

/-- F8: LD HL,SP+e (rule R116). -/
def execLdHlSpE (e : Byte) (s : State) : Outcome := .next (ldHlSpPlus e s)

/-- F9: LD SP,HL (rule R111). -/
def execLdSpHl (s : State) : Outcome := .next ((internal s).setPair .sp s.hl)

end Sys2Proof.Machine
end

