-- ==== Sys2Proof/Machine/Load8.lean ====
section
/-! DEFINITION. The meanings of the 8-bit loads (41_load8.md rules R90 to R108), after the
fetches of opcode and operands. -/

namespace Sys2Proof.Machine

/-! ## Shared operations -/

/-- `R8[dst] <- R8[src]` (rule R90). -/
def ldRegReg (dst src : Reg8) (s : State) : State := s.setReg dst (s.reg src)

/-- `R8[r] <- n` (rule R91). -/
def ldRegByte (r : Reg8) (n : Byte) (s : State) : State := s.setReg r n

/-- `R8[r] <- Read8(a)`, the address taken before the load (rule R92). -/
def ldRegMem (r : Reg8) (a : Word) (s : State) : State := (read8 a s).2.setReg r (read8 a s).1

/-- HL moved by `d` from its value `a` before the access (rules R105 to R108). -/
def moveHl (d a : Word) (s : State) : State := s.setPair .hl (a + d)

/-! ## The instructions -/

/-- 02: LD (BC),A (rule R97). -/
def execLdAtBcA (s : State) : Outcome := .next (write8 (s.pair .bc) s.regs.a s)

/-- 06: LD B,n (rule R91). -/
def execLdBN (n : Byte) (s : State) : Outcome := .next (ldRegByte .b n s)

/-- 0A: LD A,(BC) (rule R95). -/
def execLdAAtBc (s : State) : Outcome := .next (ldRegMem .a (s.pair .bc) s)

/-- 0E: LD C,n (rule R91). -/
def execLdCN (n : Byte) (s : State) : Outcome := .next (ldRegByte .c n s)

/-- 12: LD (DE),A (rule R98). -/
def execLdAtDeA (s : State) : Outcome := .next (write8 (s.pair .de) s.regs.a s)

/-- 16: LD D,n (rule R91). -/
def execLdDN (n : Byte) (s : State) : Outcome := .next (ldRegByte .d n s)

/-- 1A: LD A,(DE) (rule R96). -/
def execLdAAtDe (s : State) : Outcome := .next (ldRegMem .a (s.pair .de) s)

/-- 1E: LD E,n (rule R91). -/
def execLdEN (n : Byte) (s : State) : Outcome := .next (ldRegByte .e n s)

/-- 22: LD (HL+),A (rule R105). -/
def execLdAtHlIncA (s : State) : Outcome := .next (moveHl 1 s.hl (write8 s.hl s.regs.a s))

/-- 26: LD H,n (rule R91). -/
def execLdHN (n : Byte) (s : State) : Outcome := .next (ldRegByte .h n s)

/-- 2A: LD A,(HL+) (rule R106). -/
def execLdAAtHlInc (s : State) : Outcome := .next (moveHl 1 s.hl (ldRegMem .a s.hl s))

/-- 2E: LD L,n (rule R91). -/
def execLdLN (n : Byte) (s : State) : Outcome := .next (ldRegByte .l n s)

/-- 32: LD (HL-),A (rule R107). -/
def execLdAtHlDecA (s : State) : Outcome := .next (moveHl (-1) s.hl (write8 s.hl s.regs.a s))

/-- 36: LD (HL),n (rule R94). -/
def execLdAtHlN (n : Byte) (s : State) : Outcome := .next (write8 s.hl n s)

/-- 3A: LD A,(HL-) (rule R108). -/
def execLdAAtHlDec (s : State) : Outcome := .next (moveHl (-1) s.hl (ldRegMem .a s.hl s))

/-- 3E: LD A,n (rule R91). -/
def execLdAN (n : Byte) (s : State) : Outcome := .next (ldRegByte .a n s)

/-- 40: LD B,B (rule R90). -/
def execLdBB (s : State) : Outcome := .next (ldRegReg .b .b s)

/-- 41: LD B,C (rule R90). -/
def execLdBC (s : State) : Outcome := .next (ldRegReg .b .c s)

/-- 42: LD B,D (rule R90). -/
def execLdBD (s : State) : Outcome := .next (ldRegReg .b .d s)

/-- 43: LD B,E (rule R90). -/
def execLdBE (s : State) : Outcome := .next (ldRegReg .b .e s)

/-- 44: LD B,H (rule R90). -/
def execLdBH (s : State) : Outcome := .next (ldRegReg .b .h s)

/-- 45: LD B,L (rule R90). -/
def execLdBL (s : State) : Outcome := .next (ldRegReg .b .l s)

/-- 46: LD B,(HL) (rule R92). -/
def execLdBAtHl (s : State) : Outcome := .next (ldRegMem .b s.hl s)

/-- 47: LD B,A (rule R90). -/
def execLdBA (s : State) : Outcome := .next (ldRegReg .b .a s)

/-- 48: LD C,B (rule R90). -/
def execLdCB (s : State) : Outcome := .next (ldRegReg .c .b s)

/-- 49: LD C,C (rule R90). -/
def execLdCC (s : State) : Outcome := .next (ldRegReg .c .c s)

/-- 4A: LD C,D (rule R90). -/
def execLdCD (s : State) : Outcome := .next (ldRegReg .c .d s)

/-- 4B: LD C,E (rule R90). -/
def execLdCE (s : State) : Outcome := .next (ldRegReg .c .e s)

/-- 4C: LD C,H (rule R90). -/
def execLdCH (s : State) : Outcome := .next (ldRegReg .c .h s)

/-- 4D: LD C,L (rule R90). -/
def execLdCL (s : State) : Outcome := .next (ldRegReg .c .l s)

/-- 4E: LD C,(HL) (rule R92). -/
def execLdCAtHl (s : State) : Outcome := .next (ldRegMem .c s.hl s)

/-- 4F: LD C,A (rule R90). -/
def execLdCA (s : State) : Outcome := .next (ldRegReg .c .a s)

/-- 50: LD D,B (rule R90). -/
def execLdDB (s : State) : Outcome := .next (ldRegReg .d .b s)

/-- 51: LD D,C (rule R90). -/
def execLdDC (s : State) : Outcome := .next (ldRegReg .d .c s)

/-- 52: LD D,D (rule R90). -/
def execLdDD (s : State) : Outcome := .next (ldRegReg .d .d s)

/-- 53: LD D,E (rule R90). -/
def execLdDE (s : State) : Outcome := .next (ldRegReg .d .e s)

/-- 54: LD D,H (rule R90). -/
def execLdDH (s : State) : Outcome := .next (ldRegReg .d .h s)

/-- 55: LD D,L (rule R90). -/
def execLdDL (s : State) : Outcome := .next (ldRegReg .d .l s)

/-- 56: LD D,(HL) (rule R92). -/
def execLdDAtHl (s : State) : Outcome := .next (ldRegMem .d s.hl s)

/-- 57: LD D,A (rule R90). -/
def execLdDA (s : State) : Outcome := .next (ldRegReg .d .a s)

/-- 58: LD E,B (rule R90). -/
def execLdEB (s : State) : Outcome := .next (ldRegReg .e .b s)

/-- 59: LD E,C (rule R90). -/
def execLdEC (s : State) : Outcome := .next (ldRegReg .e .c s)

/-- 5A: LD E,D (rule R90). -/
def execLdED (s : State) : Outcome := .next (ldRegReg .e .d s)

/-- 5B: LD E,E (rule R90). -/
def execLdEE (s : State) : Outcome := .next (ldRegReg .e .e s)

/-- 5C: LD E,H (rule R90). -/
def execLdEH (s : State) : Outcome := .next (ldRegReg .e .h s)

/-- 5D: LD E,L (rule R90). -/
def execLdEL (s : State) : Outcome := .next (ldRegReg .e .l s)

/-- 5E: LD E,(HL) (rule R92). -/
def execLdEAtHl (s : State) : Outcome := .next (ldRegMem .e s.hl s)

/-- 5F: LD E,A (rule R90). -/
def execLdEA (s : State) : Outcome := .next (ldRegReg .e .a s)

/-- 60: LD H,B (rule R90). -/
def execLdHB (s : State) : Outcome := .next (ldRegReg .h .b s)

/-- 61: LD H,C (rule R90). -/
def execLdHC (s : State) : Outcome := .next (ldRegReg .h .c s)

/-- 62: LD H,D (rule R90). -/
def execLdHD (s : State) : Outcome := .next (ldRegReg .h .d s)

/-- 63: LD H,E (rule R90). -/
def execLdHE (s : State) : Outcome := .next (ldRegReg .h .e s)

/-- 64: LD H,H (rule R90). -/
def execLdHH (s : State) : Outcome := .next (ldRegReg .h .h s)

/-- 65: LD H,L (rule R90). -/
def execLdHL (s : State) : Outcome := .next (ldRegReg .h .l s)

/-- 66: LD H,(HL) (rule R92). -/
def execLdHAtHl (s : State) : Outcome := .next (ldRegMem .h s.hl s)

/-- 67: LD H,A (rule R90). -/
def execLdHA (s : State) : Outcome := .next (ldRegReg .h .a s)

/-- 68: LD L,B (rule R90). -/
def execLdLB (s : State) : Outcome := .next (ldRegReg .l .b s)

/-- 69: LD L,C (rule R90). -/
def execLdLC (s : State) : Outcome := .next (ldRegReg .l .c s)

/-- 6A: LD L,D (rule R90). -/
def execLdLD (s : State) : Outcome := .next (ldRegReg .l .d s)

/-- 6B: LD L,E (rule R90). -/
def execLdLE (s : State) : Outcome := .next (ldRegReg .l .e s)

/-- 6C: LD L,H (rule R90). -/
def execLdLH (s : State) : Outcome := .next (ldRegReg .l .h s)

/-- 6D: LD L,L (rule R90). -/
def execLdLL (s : State) : Outcome := .next (ldRegReg .l .l s)

/-- 6E: LD L,(HL) (rule R92). -/
def execLdLAtHl (s : State) : Outcome := .next (ldRegMem .l s.hl s)

/-- 6F: LD L,A (rule R90). -/
def execLdLA (s : State) : Outcome := .next (ldRegReg .l .a s)

/-- 70: LD (HL),B (rule R93). -/
def execLdAtHlB (s : State) : Outcome := .next (write8 s.hl (s.reg .b) s)

/-- 71: LD (HL),C (rule R93). -/
def execLdAtHlC (s : State) : Outcome := .next (write8 s.hl (s.reg .c) s)

/-- 72: LD (HL),D (rule R93). -/
def execLdAtHlD (s : State) : Outcome := .next (write8 s.hl (s.reg .d) s)

/-- 73: LD (HL),E (rule R93). -/
def execLdAtHlE (s : State) : Outcome := .next (write8 s.hl (s.reg .e) s)

/-- 74: LD (HL),H (rule R93). -/
def execLdAtHlH (s : State) : Outcome := .next (write8 s.hl (s.reg .h) s)

/-- 75: LD (HL),L (rule R93). -/
def execLdAtHlL (s : State) : Outcome := .next (write8 s.hl (s.reg .l) s)

/-- 77: LD (HL),A (rule R93). -/
def execLdAtHlA (s : State) : Outcome := .next (write8 s.hl (s.reg .a) s)

/-- 78: LD A,B (rule R90). -/
def execLdAB (s : State) : Outcome := .next (ldRegReg .a .b s)

/-- 79: LD A,C (rule R90). -/
def execLdAC (s : State) : Outcome := .next (ldRegReg .a .c s)

/-- 7A: LD A,D (rule R90). -/
def execLdAD (s : State) : Outcome := .next (ldRegReg .a .d s)

/-- 7B: LD A,E (rule R90). -/
def execLdAE (s : State) : Outcome := .next (ldRegReg .a .e s)

/-- 7C: LD A,H (rule R90). -/
def execLdAH (s : State) : Outcome := .next (ldRegReg .a .h s)

/-- 7D: LD A,L (rule R90). -/
def execLdAL (s : State) : Outcome := .next (ldRegReg .a .l s)

/-- 7E: LD A,(HL) (rule R92). -/
def execLdAAtHl (s : State) : Outcome := .next (ldRegMem .a s.hl s)

/-- 7F: LD A,A (rule R90). -/
def execLdAA (s : State) : Outcome := .next (ldRegReg .a .a s)

/-- E0: LDH (n),A (rule R102). -/
def execLdhAtNA (n : Byte) (s : State) : Outcome := .next (write8 (highPage n) s.regs.a s)

/-- E2: LD (C),A (rule R104). -/
def execLdAtCA (s : State) : Outcome := .next (write8 (highPage s.regs.c) s.regs.a s)

/-- EA: LD (nn),A (rule R100). -/
def execLdAtNnA (nn : Word) (s : State) : Outcome := .next (write8 nn s.regs.a s)

/-- F0: LDH A,(n) (rule R101). -/
def execLdhAAtN (n : Byte) (s : State) : Outcome := .next (ldRegMem .a (highPage n) s)

/-- F2: LD A,(C) (rule R103). -/
def execLdAAtC (s : State) : Outcome := .next (ldRegMem .a (highPage s.regs.c) s)

/-- FA: LD A,(nn) (rule R99). -/
def execLdAAtNn (nn : Word) (s : State) : Outcome := .next (ldRegMem .a nn s)

end Sys2Proof.Machine
end

