-- ==== Sys2Proof/Machine/Prefix.lean ====
section
/-! DEFINITION. The escape 0xCB: the second byte and the meaning it selects (46_system.md rule R178; the extended table
of 30_encoding.md rule R67). -/

namespace Sys2Proof.Machine

/-- The meanings of the extended table, row by row as rule R67 prints it: entry `cbop` is the meaning of `CB cbop`. -/
def cbMeanings : List (State → Outcome) :=
  [execRlcB, execRlcC, execRlcD, execRlcE, execRlcH, execRlcL, execRlcAtHl, execRlcA, execRrcB, execRrcC, execRrcD,
    execRrcE, execRrcH, execRrcL, execRrcAtHl, execRrcA] ++
  [execRlB, execRlC, execRlD, execRlE, execRlH, execRlL, execRlAtHl, execRlA, execRrB, execRrC, execRrD, execRrE,
    execRrH, execRrL, execRrAtHl, execRrA] ++
  [execSlaB, execSlaC, execSlaD, execSlaE, execSlaH, execSlaL, execSlaAtHl, execSlaA, execSraB, execSraC, execSraD,
    execSraE, execSraH, execSraL, execSraAtHl, execSraA] ++
  [execSwapB, execSwapC, execSwapD, execSwapE, execSwapH, execSwapL, execSwapAtHl, execSwapA, execSrlB, execSrlC,
    execSrlD, execSrlE, execSrlH, execSrlL, execSrlAtHl, execSrlA] ++
  [execBit0B, execBit0C, execBit0D, execBit0E, execBit0H, execBit0L, execBit0AtHl, execBit0A, execBit1B, execBit1C,
    execBit1D, execBit1E, execBit1H, execBit1L, execBit1AtHl, execBit1A] ++
  [execBit2B, execBit2C, execBit2D, execBit2E, execBit2H, execBit2L, execBit2AtHl, execBit2A, execBit3B, execBit3C,
    execBit3D, execBit3E, execBit3H, execBit3L, execBit3AtHl, execBit3A] ++
  [execBit4B, execBit4C, execBit4D, execBit4E, execBit4H, execBit4L, execBit4AtHl, execBit4A, execBit5B, execBit5C,
    execBit5D, execBit5E, execBit5H, execBit5L, execBit5AtHl, execBit5A] ++
  [execBit6B, execBit6C, execBit6D, execBit6E, execBit6H, execBit6L, execBit6AtHl, execBit6A, execBit7B, execBit7C,
    execBit7D, execBit7E, execBit7H, execBit7L, execBit7AtHl, execBit7A] ++
  [execRes0B, execRes0C, execRes0D, execRes0E, execRes0H, execRes0L, execRes0AtHl, execRes0A, execRes1B, execRes1C,
    execRes1D, execRes1E, execRes1H, execRes1L, execRes1AtHl, execRes1A] ++
  [execRes2B, execRes2C, execRes2D, execRes2E, execRes2H, execRes2L, execRes2AtHl, execRes2A, execRes3B, execRes3C,
    execRes3D, execRes3E, execRes3H, execRes3L, execRes3AtHl, execRes3A] ++
  [execRes4B, execRes4C, execRes4D, execRes4E, execRes4H, execRes4L, execRes4AtHl, execRes4A, execRes5B, execRes5C,
    execRes5D, execRes5E, execRes5H, execRes5L, execRes5AtHl, execRes5A] ++
  [execRes6B, execRes6C, execRes6D, execRes6E, execRes6H, execRes6L, execRes6AtHl, execRes6A, execRes7B, execRes7C,
    execRes7D, execRes7E, execRes7H, execRes7L, execRes7AtHl, execRes7A] ++
  [execSet0B, execSet0C, execSet0D, execSet0E, execSet0H, execSet0L, execSet0AtHl, execSet0A, execSet1B, execSet1C,
    execSet1D, execSet1E, execSet1H, execSet1L, execSet1AtHl, execSet1A] ++
  [execSet2B, execSet2C, execSet2D, execSet2E, execSet2H, execSet2L, execSet2AtHl, execSet2A, execSet3B, execSet3C,
    execSet3D, execSet3E, execSet3H, execSet3L, execSet3AtHl, execSet3A] ++
  [execSet4B, execSet4C, execSet4D, execSet4E, execSet4H, execSet4L, execSet4AtHl, execSet4A, execSet5B, execSet5C,
    execSet5D, execSet5E, execSet5H, execSet5L, execSet5AtHl, execSet5A] ++
  [execSet6B, execSet6C, execSet6D, execSet6E, execSet6H, execSet6L, execSet6AtHl, execSet6A, execSet7B, execSet7C,
    execSet7D, execSet7E, execSet7H, execSet7L, execSet7AtHl, execSet7A]

/-- Every second byte has an entry (rule R67). -/
theorem cbMeanings_length : cbMeanings.length = 256 := by
  simp only [cbMeanings, List.length_append, List.length_cons, List.length_nil]

/-- The meaning a second byte selects. -/
def cbMeaning (cbop : Byte) : State → Outcome :=
  cbMeanings[cbop.toNat]'(by rw [cbMeanings_length]; exact cbop.isLt)

/-- CB: the escape, `cbop <- Fetch8(); Execute(cbdecode(cbop), opaddr)` (rule R178). -/
def execPrefixCb (s : State) : Outcome := cbMeaning (fetch8 s).1 (fetch8 s).2

end Sys2Proof.Machine
end

