-- ==== Sys2Proof/Machine/System.lean ====
section
/-! DEFINITION. The meanings of NOP, STOP, HALT, DI, EI and the illegal opcodes (46_system.md rules R173 to R177, R179), after the
fetches of opcode and operands. -/

namespace Sys2Proof.Machine

/-! ## Shared operations -/

/-- HALT (rule R175): the bus is asked only where HALT_BUG holds and IME is clear. -/
def halt (s : State) : State :=
  if s.cfg.haltBugEnabled && !s.ime then
    let x := peekInterrupt s
    if x.1.isSome then { x.2 with haltBug := true } else { x.2 with halted := true }
  else { s with halted := true }

/-- EI (rule R177). -/
def ei (s : State) : State := if s.ime then s else { s with pend := true }

/-! ## The instructions -/

/-- 00: NOP (rule R173). -/
def execNop (s : State) : Outcome := .next s

/-- 10: STOP (rule R174). -/
def execStop (s : State) : Outcome := .next (raiseFatal .stop 0x10 s)

/-- 76: HALT (rule R175). -/
def execHalt (s : State) : Outcome := .next (halt s)

/-- D3: illegal (rule R179). -/
def execIllegalD3 (s : State) : Outcome := .next (raiseFatal .decodeFailure 0xD3 s)

/-- DB: illegal (rule R179). -/
def execIllegalDB (s : State) : Outcome := .next (raiseFatal .decodeFailure 0xDB s)

/-- DD: illegal (rule R179). -/
def execIllegalDD (s : State) : Outcome := .next (raiseFatal .decodeFailure 0xDD s)

/-- E3: illegal (rule R179). -/
def execIllegalE3 (s : State) : Outcome := .next (raiseFatal .decodeFailure 0xE3 s)

/-- E4: illegal (rule R179). -/
def execIllegalE4 (s : State) : Outcome := .next (raiseFatal .decodeFailure 0xE4 s)

/-- EB: illegal (rule R179). -/
def execIllegalEB (s : State) : Outcome := .next (raiseFatal .decodeFailure 0xEB s)

/-- EC: illegal (rule R179). -/
def execIllegalEC (s : State) : Outcome := .next (raiseFatal .decodeFailure 0xEC s)

/-- ED: illegal (rule R179). -/
def execIllegalED (s : State) : Outcome := .next (raiseFatal .decodeFailure 0xED s)

/-- F3: DI (rule R176). -/
def execDi (s : State) : Outcome := .next { s with ime := false, pend := false }

/-- F4: illegal (rule R179). -/
def execIllegalF4 (s : State) : Outcome := .next (raiseFatal .decodeFailure 0xF4 s)

/-- FB: EI (rule R177). -/
def execEi (s : State) : Outcome := .next (ei s)

/-- FC: illegal (rule R179). -/
def execIllegalFC (s : State) : Outcome := .next (raiseFatal .decodeFailure 0xFC s)

/-- FD: illegal (rule R179). -/
def execIllegalFD (s : State) : Outcome := .next (raiseFatal .decodeFailure 0xFD s)

end Sys2Proof.Machine
end

