-- ==== Sys2Proof/WellFormed.lean ====
section
/-! DEFINITION. Which terms of `Instr` are whole instructions of a byte stream. The operand types leave no ill-formed
operand (n, e and nn are bit vectors of their encoded width), so one check remains. -/

namespace Sys2Proof

/-- Whether the term is a whole instruction. The escape 0xCB alone is not: format `CB` has two bytes (rule R58), "it
applies to exactly the one byte after it", and with that byte it is a row of the extended table (rules R67, R178). -/
def Instr.wellFormed : Instr → Bool
  | .prefixCb => false
  | _ => true

end Sys2Proof
end

