-- ==== Sys2Proof/Machine/Fetch.lean ====
section
/-! DEFINITION. Fetching an instruction: the opcode with FetchOpcode, then the operand bytes its form has with Fetch8, in
order (40_dispatch.md rules R73, R81 to R83; 30_encoding.md rule R58). Every instruction rule with an immediate fetches it
first, so the fetches come before the instruction's own effect (log 10). -/

namespace Sys2Proof.Machine

/-- The instruction at PC and the state after its fetches. The escape 0xCB fetches its second byte in its own meaning
(rule R178). -/
def fetchInstr (s : State) : Instr × State :=
  let op := fetchOpcode s
  match decodeOp op.1 with
  | .plain i => (i, op.2)
  | .imm8 f => (f (fetch8 op.2).1, (fetch8 op.2).2)
  | .imm16 f => (f (fetch16 op.2).1, (fetch16 op.2).2)
  | .escape => (.prefixCb, op.2)

/-- Bytes placed in the memory behind the bus, one after another from an address on. -/
def placeBytes (b : Bus) (a : Word) : List Byte → Bus
  | [] => b
  | v :: rest => placeBytes (b.poke a.toNat v) (a + 1) rest

end Sys2Proof.Machine
end

