-- ==== Sys2Proof/Machine/Step.lean ====
section
/-! DEFINITION. One step (rule R73; 40_dispatch.md), and the placing of an instruction where the next step fetches it. -/

namespace Sys2Proof.Machine

/-- Steps 5 and 6 of the step algorithm: fetch, decode, execute (rule R73). -/
def fetchExecute (s : State) : Host.Outcome State Fault Refusal := exec (fetchInstr s).1 (fetchInstr s).2

/-- One logical step (rule R73): no step after a fatal outcome (rule R32); then the interrupt check, the promotion and the
halted step; then the instruction. -/
def step (s : State) : Host.Outcome State Fault Refusal :=
  match s.fatal with
  | some r => .fault (.fatalRecorded r)
  | none =>
    match beforeFetch s with
    | .finished t => .next t
    | .fetching t => fetchExecute t

/-- `s` with a word of opcode_table.json, operand bytes zero, placed at PC, and with everything the next step needs to
fetch and run it: a plain RAM behind the bus, no fatal outcome, not halted, no halt-bug latch, no interrupt condition and
nothing coming from outside (log 13). -/
def State.withFetchWord (s : State) (nbits w : Nat) : State :=
  { s with
    halted := false
    haltBug := false
    fatal := none
    bus := placeBytes
      { s.bus with model := .ram, pending := .empty, inbox := [] } s.pc
      (tableBytes nbits w ++ List.replicate (3 - (tableBytes nbits w).length) 0x00) }

end Sys2Proof.Machine
end

