-- ==== Sys2Proof/Safety.lean ====
section
/-! DEFINITION. The terms claims are made in: what the bus sees of an instruction, a bus whose peripherals leave memory
alone, the invariant of the machine, the addresses an instruction stores to, and the spec's own tables and second forms
of its computations. -/

namespace Sys2Proof.Machine

/-! ## What the bus sees -/

/-- What an operation of the block does to the bus (rules R39 to R44). -/
def Bus.perform (b : Bus) (op : BusOp) : Bus :=
  match op with
  | .fetchByte a _ => b.afterFetch a
  | .storeByte a v => b.storeByte a v
  | .step => b.step
  | .nextInterrupt _ => b
  | .nextInterruptAck _ => b.acknowledge

/-- The bus after a sequence of operations of the block, oldest first. -/
def Bus.replay (b : Bus) (ops : List BusOp) : Bus := ops.foldl Bus.perform b

/-- The ticks in a sequence of operations (rule R86). -/
def ticksIn (ops : List BusOp) : Nat := ops.countP (· == .step)

/-- The state after exactly the bus operations `ops`, in that order: the bus has performed them, they are recorded, their
ticks are counted, and nothing else has changed. -/
def State.onBus (ops : List BusOp) (s : State) : State :=
  { s with bus := s.bus.replay ops, cyc := s.cyc + ticksIn ops, trace := s.trace ++ ops }

/-- `k` calls of the bus's `step()`. -/
def tickOps (k : Nat) : List BusOp := List.replicate k .step

/-- One M-cycle with a read of `v` at `a`: the access, then four ticks (rules R77, R78). -/
def readOps (a : Word) (v : Byte) : List BusOp := .fetchByte a v :: tickOps 4

/-- One M-cycle with a store: the access, then four ticks (rules R77, R79). -/
def writeOps (a : Word) (v : Byte) : List BusOp := .storeByte a v :: tickOps 4

/-- The bytes that `n` fetches from the address `a` on give, each four ticks after the one before it. -/
def fetchedBytes (b : Bus) (a : Word) : Nat → List Byte
  | 0 => []
  | n + 1 => b.fetchByte a :: fetchedBytes (b.replay (readOps a (b.fetchByte a))) (a + 1) n

/-- The operations of `n` fetches from the address `a` on. -/
def fetchOps (b : Bus) (a : Word) : Nat → List BusOp
  | 0 => []
  | n + 1 =>
    readOps a (b.fetchByte a) ++ fetchOps (b.replay (readOps a (b.fetchByte a))) (a + 1) n

/-! ## A bus whose peripherals leave memory alone -/

/-- Whether an event changes what an address reads as. -/
def BusEvent.isPoke (e : BusEvent) : Bool :=
  match e with
  | .poke _ _ => true
  | _ => false

/-- A fetch answers the last byte stored and a store lands (rule R40, "plain RAM"); what a `step()` raises is left open. -/
def BusModel.plain (m : BusModel) : Bool := m == { BusModel.ram with raises := m.raises }

/-- Plain RAM, and nothing from outside is going to write it. -/
def Bus.quiet (b : Bus) : Bool := b.model.plain && b.inbox.all fun events => events.all fun e => !e.isPoke

/-! ## The invariant -/

/-- What holds of the machine between steps: memory is in canonical form; (IME, PEND) is not (true, true) (rule R29);
HALTBUG is set only where the parameter allows it, with IME and PEND clear and the core running (rules R31, R175, R208);
and `cyc` is the number of ticks of the step (rules R33, R86). -/
def State.inv (s : State) : Prop :=
  s.bus.mem.wf = true ∧
  ¬(s.ime = true ∧ s.pend = true) ∧
  (s.haltBug = true → s.cfg.haltBugEnabled = true ∧ s.ime = false ∧ s.pend = false ∧ s.halted = false) ∧
  s.cyc = ticksIn s.trace

/-- A run is safe as long as no fatal outcome is recorded (rule R32). -/
def State.safe (s : State) : Bool := s.fatal.isNone

/-! ## Where a step stands before its fetch -/

/-- The state in which a step that enters no interrupt goes on: nothing counted, the interrupt check recorded where IME
was set, a pending enable promoted where it was not (rules R73, R74). -/
def State.opened (s : State) : State :=
  { s with
    cyc := 0
    trace := if s.ime then [.nextInterruptAck none] else []
    ime := s.ime || s.pend
    pend := s.ime && s.pend }

/-- No interrupt is entered at the start of the next step. -/
def State.noInterrupt (s : State) : Prop := s.ime = true → s.bus.nextInterrupt = none

/-! ## The addresses an instruction stores to -/

/-- The two bytes below SP (rule R84). -/
def stackSlots (s : State) : List Word := [s.sp - 1, s.sp - 2]

/-- The addresses a row of the extended table stores to: HL for the forms of z = 6 but BIT (rules R181, R201, R203). -/
def storedByCb (cbop : Byte) (s : State) : List Word :=
  if fieldZ cbop = 6 ∧ fieldX cbop ≠ 1 then [s.hl] else []

/-- The addresses an instruction stores to, from the state after its fetches. -/
def storedAddrs (i : Instr) (s : State) : List Word :=
  match i with
  | .ldAtHlB | .ldAtHlC | .ldAtHlD | .ldAtHlE | .ldAtHlH | .ldAtHlL | .ldAtHlA | .ldAtHlN _ => [s.hl]
  | .ldAtHlIncA | .ldAtHlDecA | .incAtHl | .decAtHl => [s.hl]
  | .ldAtBcA => [s.pair .bc]
  | .ldAtDeA => [s.pair .de]
  | .ldAtNnA nn => [nn]
  | .ldhAtNA n => [highPage n]
  | .ldAtCA => [highPage s.regs.c]
  | .ldAtNnSp nn => [nn, nn + 1]
  | .pushBc | .pushDe | .pushHl | .pushAf => stackSlots s
  | .callNn _ => stackSlots s
  | .callNzNn _ => if s.cond .nz then stackSlots s else []
  | .callZNn _ => if s.cond .z then stackSlots s else []
  | .callNcNn _ => if s.cond .nc then stackSlots s else []
  | .callCNn _ => if s.cond .c then stackSlots s else []
  | .rst00 | .rst08 | .rst10 | .rst18 | .rst20 | .rst28 | .rst30 | .rst38 => stackSlots s
  | .prefixCb => storedByCb (s.bus.fetchByte s.pc) s
  | i =>
    match encode i with
    | [0xCB, cbop] => storedByCb cbop s
    | _ => []

/-! ## The spec's second forms and tables -/

/-- The 8-bit sum with its flags in the form "equals (a[3:0] + b[3:0] + cin) > 0x0F" (rule R117). -/
def sumOf (a b : Byte) (cin : Nat) : Byte × Flags :=
  (BitVec.ofNat 8 (a.toNat + b.toNat + cin),
   { z := decide ((a.toNat + b.toNat + cin) % 256 = 0)
     n := false
     h := decide (a.toNat % 16 + b.toNat % 16 + cin > 0x0F)
     c := decide (a.toNat + b.toNat + cin > 0xFF) })

/-- The 8-bit difference with its flags in the forms "equals a[3:0] < b[3:0] + cin" and "equals a < b + cin" (rule
R118). -/
def differenceOf (a b : Byte) (cin : Nat) : Byte × Flags :=
  (BitVec.ofInt 8 ((a.toNat : Int) - b.toNat - cin),
   { z := decide (((a.toNat : Int) - b.toNat - cin) % 256 = 0)
     n := true
     h := decide (a.toNat % 16 < b.toNat % 16 + cin)
     c := decide (a.toNat < b.toNat + cin) })

/-- The rotates and shifts as arithmetic on numbers: the result and the outgoing bit, `cin` the old Cf as 0 or 1 (rules
R182 to R197). -/
def rotatedOf (op : RotOp) (v cin : Nat) : Nat × Bool :=
  match op with
  | .rlc => (v * 2 % 256 + v / 128, decide (v / 128 = 1))
  | .rrc => (v / 2 + v % 2 * 128, decide (v % 2 = 1))
  | .rl => (v * 2 % 256 + cin, decide (v / 128 = 1))
  | .rr => (v / 2 + cin * 128, decide (v % 2 = 1))
  | .sla => (v * 2 % 256, decide (v / 128 = 1))
  | .sra => (v / 2 + v / 128 * 128, decide (v % 2 = 1))
  | .swap => (v % 16 * 16 + v / 16, false)
  | .srl => (v / 2, decide (v % 2 = 1))

/-- What a row of rule R26's table says of one flag: forced, unchanged ("-") or computed ("*"). -/
inductive FlagEffect where
  | forced (x : Bool)
  | kept
  | computed
  deriving DecidableEq, Repr

/-- Whether a flag that was `old` and is `new` agrees with the table. -/
def FlagEffect.allows (e : FlagEffect) (old new : Bool) : Prop :=
  match e with
  | .forced x => new = x
  | .kept => new = old
  | .computed => True

/-- A row of rule R26's table. -/
structure FlagRow where
  z : FlagEffect
  n : FlagEffect
  h : FlagEffect
  c : FlagEffect
  deriving DecidableEq, Repr

/-- The row of an ALU operation by its index (rules R26, R63). -/
def aluFlagRow (y : Nat) : FlagRow :=
  if y ≤ 1 then ⟨.computed, .forced false, .computed, .computed⟩
  else if y = 2 ∨ y = 3 ∨ y = 7 then ⟨.computed, .forced true, .computed, .computed⟩
  else if y = 4 then ⟨.computed, .forced false, .forced true, .forced false⟩
  else ⟨.computed, .forced false, .forced false, .forced false⟩

/-- The row of a primary opcode (rule R26). -/
def flagRowOf (op : Nat) : FlagRow :=
  if 0x80 ≤ op ∧ op ≤ 0xBF then aluFlagRow (op / 8 % 8)
  else if 0xC0 ≤ op ∧ op % 8 = 6 then aluFlagRow (op / 8 % 8)
  else if op < 0x40 ∧ op % 8 = 4 then ⟨.computed, .forced false, .computed, .kept⟩
  else if op < 0x40 ∧ op % 8 = 5 then ⟨.computed, .forced true, .computed, .kept⟩
  else if op = 0x27 then ⟨.computed, .kept, .forced false, .computed⟩
  else if op = 0x2F then ⟨.kept, .forced true, .forced true, .kept⟩
  else if op = 0x37 then ⟨.kept, .forced false, .forced false, .forced true⟩
  else if op = 0x3F then ⟨.kept, .forced false, .forced false, .computed⟩
  else if op < 0x20 ∧ op % 8 = 7 then ⟨.forced false, .forced false, .forced false, .computed⟩
  else if op < 0x40 ∧ op % 16 = 9 then ⟨.kept, .forced false, .computed, .computed⟩
  else if op = 0xE8 ∨ op = 0xF8 then ⟨.forced false, .forced false, .computed, .computed⟩
  else if op = 0xF1 then ⟨.computed, .computed, .computed, .computed⟩
  else ⟨.kept, .kept, .kept, .kept⟩

/-- The row of an opcode of the extended table (rule R26). -/
def cbFlagRowOf (cbop : Nat) : FlagRow :=
  if 0x30 ≤ cbop ∧ cbop ≤ 0x37 then ⟨.computed, .forced false, .forced false, .forced false⟩
  else if cbop < 0x40 then ⟨.computed, .forced false, .forced false, .computed⟩
  else if cbop < 0x80 then ⟨.computed, .forced false, .forced true, .kept⟩
  else ⟨.kept, .kept, .kept, .kept⟩

/-- The row of a whole instruction (rule R26). -/
def flagRow (i : Instr) : FlagRow :=
  match encode i with
  | op :: rest =>
    if op = 0xCB then
      match rest with
      | cbop :: _ => cbFlagRowOf cbop.toNat
      | [] => ⟨.computed, .computed, .computed, .computed⟩
    else flagRowOf op.toNat
  | [] => ⟨.kept, .kept, .kept, .kept⟩

/-- The opcodes that write SP: LD SP,nn, INC SP, DEC SP, ADD SP,e, LD SP,HL, POP, PUSH, CALL, RET, RETI, RST (rule R21). -/
def writesSp (op : Nat) : Bool :=
  op = 0x31 ∨ op = 0x33 ∨ op = 0x3B ∨ op = 0xE8 ∨ op = 0xF9 ∨
  op ∈ [0xC1, 0xD1, 0xE1, 0xF1] ∨ op ∈ [0xC5, 0xD5, 0xE5, 0xF5] ∨
  op ∈ [0xC4, 0xCC, 0xD4, 0xDC, 0xCD] ∨ op ∈ [0xC0, 0xC8, 0xD0, 0xD8, 0xC9, 0xD9] ∨
  (0xC0 ≤ op ∧ op % 8 = 7)

/-- The primary table of rule R231, rows by high nibble, taken where it says taken/not taken, the 4 bus ticks where it says
F. The entry of the escape 0xCB is not used. -/
def ticksTable : List (List Nat) :=
  [[4, 12, 8, 8, 4, 4, 8, 4, 20, 8, 8, 8, 4, 4, 8, 4],
   [4, 12, 8, 8, 4, 4, 8, 4, 12, 8, 8, 8, 4, 4, 8, 4],
   [12, 12, 8, 8, 4, 4, 8, 4, 12, 8, 8, 8, 4, 4, 8, 4],
   [12, 12, 8, 8, 12, 12, 12, 4, 12, 8, 8, 8, 4, 4, 8, 4],
   [4, 4, 4, 4, 4, 4, 8, 4, 4, 4, 4, 4, 4, 4, 8, 4],
   [4, 4, 4, 4, 4, 4, 8, 4, 4, 4, 4, 4, 4, 4, 8, 4],
   [4, 4, 4, 4, 4, 4, 8, 4, 4, 4, 4, 4, 4, 4, 8, 4],
   [8, 8, 8, 8, 8, 8, 4, 8, 4, 4, 4, 4, 4, 4, 8, 4],
   [4, 4, 4, 4, 4, 4, 8, 4, 4, 4, 4, 4, 4, 4, 8, 4],
   [4, 4, 4, 4, 4, 4, 8, 4, 4, 4, 4, 4, 4, 4, 8, 4],
   [4, 4, 4, 4, 4, 4, 8, 4, 4, 4, 4, 4, 4, 4, 8, 4],
   [4, 4, 4, 4, 4, 4, 8, 4, 4, 4, 4, 4, 4, 4, 8, 4],
   [20, 12, 16, 16, 24, 16, 8, 16, 20, 16, 16, 0, 24, 24, 8, 16],
   [20, 12, 16, 4, 24, 16, 8, 16, 20, 16, 16, 4, 24, 4, 8, 16],
   [12, 12, 8, 4, 4, 16, 8, 16, 16, 4, 16, 4, 4, 4, 8, 16],
   [12, 12, 8, 4, 4, 16, 8, 16, 12, 8, 16, 4, 4, 4, 8, 16]]

/-- The opcodes with a condition: JR cc, RET cc, JP cc, CALL cc (rule R161). -/
def conditional (op : Nat) : Bool :=
  op ∈ [0x20, 0x28, 0x30, 0x38] ∨ op ∈ [0xC0, 0xC8, 0xD0, 0xD8] ∨ op ∈ [0xC2, 0xCA, 0xD2, 0xDA] ∨
  op ∈ [0xC4, 0xCC, 0xD4, 0xDC]

/-- The not-taken entries of rule R231's table: JR cc and RET cc 8, JP cc and CALL cc 12. -/
def notTakenTicks (op : Nat) : Nat := if op < 0x40 ∨ op % 8 = 0 then 8 else 12

/-- The CB table of rule R231. -/
def cbTicksTable (cbop : Nat) : Nat := if cbop % 8 = 6 then 16 else 8

/-- The ticks rule R231 gives the instruction with opcode byte `op` and second byte `cbop`, run in the state `s`. -/
def ticksOf (op cbop : Byte) (s : State) : Nat :=
  if op = 0xCB then cbTicksTable cbop.toNat
  else if conditional op.toNat && !s.cond (condOf (fieldY op)) then notTakenTicks op.toNat
  else (ticksTable.getD (op.toNat / 16) []).getD (op.toNat % 16) 0

end Sys2Proof.Machine
end

