-- ==== Sys2Proof/Certificates/Slice0/Obligations.lean ====
section
/-! DEFINITION. The statements for the provers. Every statement about an instruction gives the whole state after it: the
state before it with the named parts updated, after exactly the bus operations listed (`State.onBus`), so it says at once
that the instruction completes, what it changes, what it leaves unchanged (registers, flags, SP, PC, IME, PEND, HALTED,
HALTBUG, FATAL, parameters), and in which order and time it uses the bus. `exec` starts after the fetches of opcode and
operands (log 10), so PC there is the address after the instruction. Every statement holds for every value of the parameters
of rule R8, BUS among them, where it names none. How BUS is given (logs 1, 2 and 15), the record of its operations (log 7) and
`opaddr` (log 6) are the model's choices, and a statement that rests on another one names its log entry. -/

open Sys2Proof Sys2Proof.Machine

/-! ## Encoding -/

/-- Decoding the encoding of a whole instruction gives it back, whatever bytes follow, with every operand at every value
(rules R58, R65 to R69). -/
def Obligations.EveryInstructionDecodesFromItsEncoding : Prop :=
  ∀ (i : Instr) (rest : List Byte), i.wellFormed = true → decode (encode i ++ rest) = .ok (i, rest)

/-- Bytes that decode to an instruction are that instruction's encoding: no byte sequence has two meanings and no bit is
ignored (rules R66 to R69). -/
def Obligations.EveryDecodedInstructionEncodesBack : Prop :=
  ∀ (bytes : List Byte) (i : Instr) (rest : List Byte), decode bytes = .ok (i, rest) → encode i ++ rest = bytes

/-- The decoder is total: any three bytes begin with a whole instruction, and its length follows from the first byte alone
(rules R58, R68, R69). -/
def Obligations.AnyThreeBytesBeginWithAnInstruction : Prop :=
  ∀ (op : Byte), ∃ n : Nat, 1 ≤ n ∧ n ≤ 3 ∧
    ∀ (b1 b2 : Byte) (rest : List Byte), ∃ (i : Instr) (rest' : List Byte),
      decode (op :: b1 :: b2 :: rest) = .ok (i, rest') ∧ i.wellFormed = true ∧ (encode i).length = n

/-- Words of the opcode map decode to the instructions they stand for (rules R66, R67; one or two of every family). -/
def Obligations.WordsOfTheOpcodeMapDecode : Prop :=
  decode [0x41] = .ok (.ldBC, []) ∧
  decode [0x36, 0x7F] = .ok (.ldAtHlN 0x7F, []) ∧
  decode [0x21, 0x00, 0xC0] = .ok (.ldHlNn 0xC000, []) ∧
  decode [0xF5] = .ok (.pushAf, []) ∧
  decode [0x9E] = .ok (.sbcAtHl, []) ∧
  decode [0xE6, 0x38] = .ok (.andN 0x38, []) ∧
  decode [0x39] = .ok (.addHlSp, []) ∧
  decode [0xDC, 0x00, 0x20] = .ok (.callCNn 0x2000, []) ∧
  decode [0x76] = .ok (.halt, []) ∧
  decode [0xFD] = .ok (.illegalFD, []) ∧
  decode [0xCB, 0x1E] = .ok (.rrAtHl, []) ∧
  decode [0xCB, 0xCB] = .ok (.set1E, [])

/-! ## The step -/

/-- A step whose bytes from PC on, as its fetches get them, decode to an instruction is the meaning of that instruction, run
in the state after the fetches of its bytes: PC past them, `opaddr` at the first, four ticks a byte, after the interrupt
check and the promotion of `State.opened` (rules R73, R81 to R83, R178). -/
def Obligations.StepRunsTheDecodedInstruction : Prop :=
  ∀ (s : State) (i : Instr) (rest : List Byte),
    s.fatal = none → s.halted = false → s.haltBug = false → s.noInterrupt →
    decode (fetchedBytes s.bus s.pc 3) = .ok (i, rest) →
    step s = exec i
      (State.onBus (fetchOps s.bus s.pc (encode i).length)
        { s.opened with pc := s.pc + BitVec.ofNat 16 (encode i).length, opaddr := s.pc })

/-- With HALTBUG set, the opcode fetch clears it and leaves PC where it is, so the byte after HALT is read again as the
instruction's next byte (rule R82). -/
def Obligations.HaltBugFetchReadsTheByteTwice : Prop :=
  ∀ (s : State) (i : Instr) (rest : List Byte),
    s.fatal = none → s.halted = false → s.haltBug = true → s.noInterrupt →
    let op := s.bus.fetchByte s.pc
    let after := s.bus.replay (readOps s.pc op)
    decode (op :: fetchedBytes after s.pc 2) = .ok (i, rest) →
    step s = exec i
      (State.onBus (readOps s.pc op ++ fetchOps after s.pc ((encode i).length - 1))
        { s.opened with
          pc := s.pc + BitVec.ofNat 16 ((encode i).length - 1), opaddr := s.pc, haltBug := false })

/-- The escape fetches its second byte and runs the row of the extended table that byte selects, and completes
(rule R178). -/
def Obligations.EscapeRunsTheRowOfItsSecondByte : Prop :=
  ∀ (s : State), ∃ t : State,
    exec .prefixCb s = .next t ∧
    exec (decodeCb (s.bus.fetchByte s.pc))
      (State.onBus (readOps s.pc (s.bus.fetchByte s.pc)) { s with pc := s.pc + 1 }) = .next t

/-- Cold boot, with any parameters but BOOT_SKIP: every register and flag zero, SP = 0xFFFE, PC = 0, interrupts enabled,
nothing else set (rule R37), the bus as it was (rule R221). The defaults boot cold (rule R8); that `State.reset` then meets the
bus `Bus.reset` is the model's choice (log 4), since BUS has no default. -/
def Obligations.ResetIsTheColdBootState : Prop :=
  (∀ (cfg : Config) (bus : Bus), cfg.bootSkip = false →
    let s := State.resetWith cfg bus
    s.regs = ⟨0x00, 0x00, 0x00, 0x00, 0x00, 0x00, 0x00⟩ ∧ s.flags = ⟨false, false, false, false⟩ ∧ s.flags.pack = 0x00 ∧
    s.sp = 0xFFFE ∧ s.pc = 0x0000 ∧ s.ime = true ∧ s.pend = false ∧ s.halted = false ∧ s.haltBug = false ∧
    s.fatal = none ∧ s.cyc = 0 ∧ s.cfg = cfg ∧ s.bus = bus) ∧
  State.reset = State.resetWith .default .reset ∧ Config.default.bootSkip = false

/-- Under BOOT_SKIP the reset gives the post-boot state and leaves the bus as it was (rule R222). -/
def Obligations.BootSkipResetIsThePostBootState : Prop :=
  ∀ (cfg : Config) (bus : Bus), cfg.bootSkip = true →
    let s := State.resetWith cfg bus
    s.regs.a = 0x01 ∧ s.flags.pack = 0xB0 ∧ s.flags = ⟨true, false, true, true⟩ ∧
    s.regs.b = 0x00 ∧ s.regs.c = 0x13 ∧ s.regs.d = 0x00 ∧ s.regs.e = 0xD8 ∧ s.regs.h = 0x01 ∧ s.regs.l = 0x4D ∧
    s.sp = 0xFFFE ∧ s.pc = 0x0100 ∧ s.ime = true ∧ s.pend = false ∧ s.halted = false ∧ s.haltBug = false ∧
    s.fatal = none ∧ s.cyc = 0 ∧ s.cfg = cfg ∧ s.bus = bus

/-- A step with IME set and an interrupt reported enters it: IME, PEND and HALTED cleared, PC pushed high byte first,
INT_EXTRA_DELAY_M internal M-cycles, PC at the vector, 8 + 4 * INT_EXTRA_DELAY_M ticks, no opcode fetched, no flag or other
register touched; HALTBUG is false at entry in a state of the invariant (rule R208). -/
def Obligations.InterruptEntryPushesPcAndGoesToTheVector : Prop :=
  ∀ (s : State) (it : IntSource),
    s.fatal = none → s.ime = true → s.bus.nextInterrupt = some it →
    let t : State :=
      State.onBus
        ([.nextInterruptAck (some it)] ++ writeOps (s.sp - 1) (hiByte s.pc) ++ writeOps (s.sp - 2) (loByte s.pc) ++
          tickOps (4 * s.cfg.intExtraDelayM))
        { s with
          ime := false, pend := false, halted := false, sp := s.sp - 2, pc := it.vector, cyc := 0, trace := [] }
    step s = .next t ∧ t.cyc = 8 + 4 * s.cfg.intExtraDelayM ∧ (s.inv → s.haltBug = false)

/-- The five vectors, and the order in which the bus reports pending-and-enabled interrupts (rule R204). -/
def Obligations.InterruptsHaveFixedVectorsAndStrictPriority : Prop :=
  IntSource.vector .vblank = 0x0040 ∧ IntSource.vector .lcdstat = 0x0048 ∧ IntSource.vector .timer = 0x0050 ∧
  IntSource.vector .serial = 0x0058 ∧ IntSource.vector .joypad = 0x0060 ∧
  ∀ (b : Bus) (it : IntSource),
    let active (x : IntSource) : Prop := b.pending.has x = true ∧ b.enabled.has x = true
    b.nextInterrupt = some it ↔
      active it ∧
      match it with
      | .vblank => True
      | .lcdstat => ¬active .vblank
      | .timer => ¬active .vblank ∧ ¬active .lcdstat
      | .serial => ¬active .vblank ∧ ¬active .lcdstat ∧ ¬active .timer
      | .joypad => ¬active .vblank ∧ ¬active .lcdstat ∧ ¬active .timer ∧ ¬active .serial

/-- `next_interrupt_ack()`: it clears the pending condition of the interrupt it returns and of no other, and touches nothing
else on the bus; a step calls it once, first, where IME is set, and not at all where IME is clear (rule R44). -/
def Obligations.AcknowledgeIsCalledOnceAndOnlyWithIme : Prop :=
  (∀ b : Bus, b.nextInterrupt = none → b.acknowledge = b) ∧
  (∀ (b : Bus) (it x : IntSource), b.nextInterrupt = some it →
    b.acknowledge.pending.has x = (b.pending.has x && decide (x ≠ it)) ∧
    b.acknowledge.enabled = b.enabled ∧ b.acknowledge.mem = b.mem ∧ b.acknowledge.inbox = b.inbox ∧
    b.acknowledge.regs = b.regs ∧ b.acknowledge.model = b.model) ∧
  ∀ s t : State, step s = .next t →
    ∃ rest : List BusOp,
      t.trace = (if s.ime then [.nextInterruptAck s.bus.nextInterrupt] else []) ++ rest ∧
      ∀ it, .nextInterruptAck it ∉ rest

/-- A halted step that enters no interrupt spends HALT_IDLE_TICKS ticks and then asks the bus for an interrupt. With IME set,
or with nothing reported, it stays halted. With IME clear and an interrupt reported it wakes without servicing it, and the
same step fetches and executes the instruction at PC, its ticks added (rule R75; that it asks with IME set too is rule R75's
reading, log 9). -/
def Obligations.HaltedStepIdlesOrWakes : Prop :=
  ∀ (s : State), s.fatal = none → s.halted = true → s.noInterrupt →
    let idle := tickOps s.cfg.haltIdleTicks
    let seen := (s.opened.bus.replay idle).nextInterrupt
    (s.opened.ime = true → step s = .next (s.opened.onBus (idle ++ [.nextInterrupt seen]))) ∧
    (s.opened.ime = false → seen = none → step s = .next (s.opened.onBus (idle ++ [.nextInterrupt none]))) ∧
    (∀ it, s.opened.ime = false → seen = some it →
      step s = fetchExecute (State.onBus (idle ++ [.nextInterrupt (some it)]) { s.opened with halted := false }))

/-- FATAL: while it holds a record no step is taken; a step from `none` sets it only by executing one of the 11 illegal bytes
or STOP, to the kind, the byte and the byte's address, and leaves it `none` otherwise (rules R32, R70, R174, R179). The byte
is the one at PC where the step fetches. That a step refused for a record answers a fault is the model's choice (log 5). -/
def Obligations.FatalOutcomesComeFromIllegalBytesAndStopAlone : Prop :=
  (∀ (s : State) (r : FatalRecord), s.fatal = some r → step s = .fault (.fatalRecorded r)) ∧
  (∀ s t : State, s.fatal = none → beforeFetch s = .finished t → step s = .next t ∧ t.fatal = none) ∧
  (∀ s u : State, s.fatal = none → beforeFetch s = .fetching u →
    ∃ t : State, step s = .next t ∧
      let op := u.bus.fetchByte u.pc
      t.fatal =
        if op ∈ [0xD3, 0xDB, 0xDD, 0xE3, 0xE4, 0xEB, 0xEC, 0xED, 0xF4, 0xFC, 0xFD] then
          some ⟨.decodeFailure, op, u.pc⟩
        else if op = 0x10 then some ⟨.stop, op, u.pc⟩
        else none)

/-! ## System instructions -/

/-- NOP changes nothing (rule R173); DI clears IME and PEND (rule R176); EI sets PEND where IME is clear and changes nothing
where it is set (rule R177). -/
def Obligations.NopDiAndEi : Prop :=
  ∀ s : State,
    exec .nop s = .next s ∧
    exec .di s = .next { s with ime := false, pend := false } ∧
    (s.ime = false → exec .ei s = .next { s with pend := true }) ∧
    (s.ime = true → exec .ei s = .next s)

/-- STOP records the fatal outcome with its opcode and its address, and writes nothing else (rules R174, R89; a next state
that holds the record is the model's choice, log 5). -/
def Obligations.StopRecordsAFatalOutcome : Prop :=
  ∀ s : State, exec .stop s = .next { s with fatal := some ⟨.stop, 0x10, s.opaddr⟩ }

/-- Each illegal opcode records a decode failure with its byte and address; no register or memory is written (rule R179;
log 5). -/
def Obligations.IllegalOpcodesRecordADecodeFailure : Prop :=
  ∀ s : State,
    let failure (op : Byte) : Outcome := .next { s with fatal := some ⟨.decodeFailure, op, s.opaddr⟩ }
    exec .illegalD3 s = failure 0xD3 ∧ exec .illegalDB s = failure 0xDB ∧ exec .illegalDD s = failure 0xDD ∧
    exec .illegalE3 s = failure 0xE3 ∧ exec .illegalE4 s = failure 0xE4 ∧ exec .illegalEB s = failure 0xEB ∧
    exec .illegalEC s = failure 0xEC ∧ exec .illegalED s = failure 0xED ∧ exec .illegalF4 s = failure 0xF4 ∧
    exec .illegalFC s = failure 0xFC ∧ exec .illegalFD s = failure 0xFD

/-- HALT: with HALT_BUG, IME clear and an interrupt reported it sets HALTBUG and does not halt; otherwise it sets HALTED. The
bus is asked only with HALT_BUG and IME clear (rule R175). -/
def Obligations.HaltHaltsOrSetsTheHaltBug : Prop :=
  ∀ s : State,
    (s.ime = true ∨ s.cfg.haltBugEnabled = false → exec .halt s = .next { s with halted := true }) ∧
    (s.ime = false → s.cfg.haltBugEnabled = true → s.bus.nextInterrupt = none →
      exec .halt s = .next (State.onBus [.nextInterrupt none] { s with halted := true })) ∧
    (∀ it, s.ime = false → s.cfg.haltBugEnabled = true → s.bus.nextInterrupt = some it →
      exec .halt s = .next (State.onBus [.nextInterrupt (some it)] { s with haltBug := true }))

/-! ## 8-bit loads -/

/-- LD r,r' copies a register and changes no other (rule R90). -/
def Obligations.LdRegRegCopiesARegister : Prop :=
  ∀ (dst src : Reg8) (s : State),
    exec (.ofLdRegReg dst src) s = .next (s.setReg dst (s.reg src))

/-- LD r,n and LD r,(HL) load a register; the address is HL from before the load (rules R91, R92). -/
def Obligations.LdRegLoadsAnImmediateOrTheByteAtHl : Prop :=
  ∀ (r : Reg8) (n : Byte) (s : State),
    exec (.ofLdRegN r n) s = .next (s.setReg r n) ∧
    exec (.ofLdRegAtHl r) s =
      .next ((s.setReg r (s.bus.fetchByte s.hl)).onBus (readOps s.hl (s.bus.fetchByte s.hl)))

/-- LD (HL),r and LD (HL),n store one byte at HL (rules R93, R94). -/
def Obligations.LdAtHlStoresARegisterOrAnImmediate : Prop :=
  ∀ (r : Reg8) (n : Byte) (s : State),
    exec (.ofLdAtHlReg r) s = .next (s.onBus (writeOps s.hl (s.reg r))) ∧
    exec (.ldAtHlN n) s = .next (s.onBus (writeOps s.hl n))

/-- The loads of A from BC, DE, nn, 0xFF00 + n and 0xFF00 + C (rules R95, R96, R99, R101, R103). -/
def Obligations.LdAccumulatorFromMemory : Prop :=
  ∀ (s : State) (n : Byte) (nn : Word),
    let loaded (a : Word) : Outcome :=
      .next (State.onBus (readOps a (s.bus.fetchByte a)) { s with regs := { s.regs with a := s.bus.fetchByte a } })
    exec .ldAAtBc s = loaded (s.pair .bc) ∧ exec .ldAAtDe s = loaded (s.pair .de) ∧
    exec (.ldAAtNn nn) s = loaded nn ∧
    exec (.ldhAAtN n) s = loaded (BitVec.ofNat 16 (0xFF00 + n.toNat)) ∧
    exec .ldAAtC s = loaded (BitVec.ofNat 16 (0xFF00 + s.regs.c.toNat))

/-- The stores of A to BC, DE, nn, 0xFF00 + n and 0xFF00 + C (rules R97, R98, R100, R102, R104). -/
def Obligations.StoreAccumulatorToMemory : Prop :=
  ∀ (s : State) (n : Byte) (nn : Word),
    let stored (a : Word) : Outcome := .next (s.onBus (writeOps a s.regs.a))
    exec .ldAtBcA s = stored (s.pair .bc) ∧ exec .ldAtDeA s = stored (s.pair .de) ∧
    exec (.ldAtNnA nn) s = stored nn ∧
    exec (.ldhAtNA n) s = stored (BitVec.ofNat 16 (0xFF00 + n.toNat)) ∧
    exec .ldAtCA s = stored (BitVec.ofNat 16 (0xFF00 + s.regs.c.toNat))

/-- The loads and stores of A at HL that then move HL by one, modulo 65536 (rules R105 to R108). -/
def Obligations.LdWithHlMovedAfterwards : Prop :=
  ∀ s : State,
    let v := s.bus.fetchByte s.hl
    let up := BitVec.ofNat 16 ((s.hl.toNat + 1) % 65536)
    let down := BitVec.ofNat 16 ((s.hl.toNat + 65535) % 65536)
    exec .ldAtHlIncA s = .next ((s.setPair .hl up).onBus (writeOps s.hl s.regs.a)) ∧
    exec .ldAtHlDecA s = .next ((s.setPair .hl down).onBus (writeOps s.hl s.regs.a)) ∧
    exec .ldAAtHlInc s = .next (((s.setReg .a v).setPair .hl up).onBus (readOps s.hl v)) ∧
    exec .ldAAtHlDec s = .next (((s.setReg .a v).setPair .hl down).onBus (readOps s.hl v))

/-! ## 16-bit loads and the stack -/

/-- A pair reads as its two halves, the first-named high; F packs the four flags with its low nibble zero; writing a register
changes that register alone, of the whole state; writing a pair changes exactly its two halves, or SP, of the whole state, and
the pair then reads as the value, AF with its low nibble zero (rules R19, R23). -/
def Obligations.RegisterAndPairWritesChangeTheirOwnBytes : Prop :=
  ∀ (s : State) (r r' : Reg8) (b : Byte) (p : Pair) (v : Word),
    (s.pair .bc).toNat = s.regs.b.toNat * 256 + s.regs.c.toNat ∧
    (s.pair .de).toNat = s.regs.d.toNat * 256 + s.regs.e.toNat ∧
    (s.pair .hl).toNat = s.regs.h.toNat * 256 + s.regs.l.toNat ∧
    (s.stackPair .af).toNat = s.regs.a.toNat * 256 + s.flags.pack.toNat ∧
    s.flags.pack.toNat =
      (if s.flags.z then 0x80 else 0) + (if s.flags.n then 0x40 else 0) + (if s.flags.h then 0x20 else 0) +
        (if s.flags.c then 0x10 else 0) ∧
    (s.setReg r b).reg r' = (if r' = r then b else s.reg r') ∧
    s.setReg r b = { s with regs := s.regs.set r b } ∧
    (s.setPair p v).pair p = v ∧
    s.setPair .sp v = { s with sp := v } ∧
    s.setPair .bc v = { s with regs := { s.regs with b := hiByte v, c := loByte v } } ∧
    s.setPair .de v = { s with regs := { s.regs with d := hiByte v, e := loByte v } } ∧
    s.setPair .hl v = { s with regs := { s.regs with h := hiByte v, l := loByte v } } ∧
    s.setStackPair .af v =
      { s with
        regs := { s.regs with a := hiByte v }
        flags := ⟨v.getLsbD 7, v.getLsbD 6, v.getLsbD 5, v.getLsbD 4⟩ } ∧
    (s.setStackPair .af v).stackPair .af = (v &&& 0xFFF0)

/-- LD rr,nn; LD SP,HL with one internal M-cycle; LD (nn),SP, the low byte first and the second address modulo 65536 (rules
R109 to R111). -/
def Obligations.SixteenBitLoads : Prop :=
  ∀ (p : Pair) (nn : Word) (s : State),
    exec (.ofLdPairNn p nn) s = .next (s.setPair p nn) ∧
    exec .ldSpHl s = .next (State.onBus (tickOps 4) { s with sp := s.hl }) ∧
    exec (.ldAtNnSp nn) s = .next
      (s.onBus (writeOps nn (loByte s.sp) ++ writeOps (BitVec.ofNat 16 ((nn.toNat + 1) % 65536)) (hiByte s.sp)))

/-- PUSH: an internal M-cycle, the high byte at SP-1, the low byte at SP-2 (rules R84, R112, R113). -/
def Obligations.PushStoresHighByteThenLowByte : Prop :=
  ∀ (q : StackPair) (s : State),
    exec (.ofPush q) s = .next
      (State.onBus
        (tickOps 4 ++ writeOps (s.sp - 1) (hiByte (s.stackPair q)) ++ writeOps (s.sp - 2) (loByte (s.stackPair q)))
        { s with sp := s.sp - 2 })

/-- POP: the low byte from SP, then the high byte from SP+1 as the bus answers it then; SP moves up by 2. POP AF takes the
flags from bits 7:4 of the low byte (rules R85, R114, R115). -/
def Obligations.PopReadsLowByteThenHighByte : Prop :=
  ∀ (s : State),
    let lo := s.bus.fetchByte s.sp
    let hi := (s.bus.replay (readOps s.sp lo)).fetchByte (s.sp + 1)
    let popped (t : State) : Outcome :=
      .next (State.onBus (readOps s.sp lo ++ readOps (s.sp + 1) hi) { t with sp := s.sp + 2 })
    exec .popBc s = popped { s with regs := { s.regs with b := hi, c := lo } } ∧
    exec .popDe s = popped { s with regs := { s.regs with d := hi, e := lo } } ∧
    exec .popHl s = popped { s with regs := { s.regs with h := hi, l := lo } } ∧
    exec .popAf s = popped
      { s with
        regs := { s.regs with a := hi }
        flags := ⟨lo.getLsbD 7, lo.getLsbD 6, lo.getLsbD 5, lo.getLsbD 4⟩ }

/-- On a quiet bus a POP right after a PUSH gives the second pair the first one's value and SP its old value, for every SP;
for AF the four flags come back (rules R84, R85; the source's Scenario 5; a
quiet bus is the model's own, logs 1 and 2). -/
def Obligations.PushThenPopGivesTheValueBack : Prop :=
  ∀ (q q' : StackPair) (s t u : State), s.bus.quiet = true →
    exec (.ofPush q) s = .next t → exec (.ofPop q') t = .next u →
    u.sp = s.sp ∧ (q' ≠ .af → u.stackPair q' = s.stackPair q) ∧ (q' = .af → u.stackPair .af = (s.stackPair q &&& 0xFFF0))

/-- LD HL,SP+e and ADD SP,e: the sum modulo 65536 with e sign-extended; Z and N clear, Hf and Cf the carries of the unsigned
addition of the low bytes (rules R116, R160). -/
def Obligations.SpPlusDisplacement : Prop :=
  ∀ (e : Byte) (s : State),
    let sum := BitVec.ofInt 16 ((s.sp.toNat : Int) + e.toInt)
    let flags : Flags :=
      { z := false
        n := false
        h := decide (s.sp.toNat % 16 + e.toNat % 16 > 0x0F)
        c := decide (s.sp.toNat % 256 + e.toNat > 0xFF) }
    exec (.ldHlSpE e) s = .next (State.onBus (tickOps 4) { s.setPair .hl sum with flags := flags }) ∧
    exec (.addSpE e) s = .next (State.onBus (tickOps 8) { s with sp := sum, flags := flags })

/-! ## 8-bit arithmetic and logic -/

/-- ADD and ADC in every operand form: the sum modulo 256 in A, Z, N = 0, Hf from bit 3 and Cf from bit 7; ADC adds the old
Cf (rules R117, R119 to R124). -/
def Obligations.AddAndAdcWriteTheSum : Prop :=
  ∀ (r : Reg8) (n : Byte) (s : State),
    let m := s.bus.fetchByte s.hl
    let sum (b : Byte) (cin : Nat) : State :=
      { s with regs := { s.regs with a := (sumOf s.regs.a b cin).1 }, flags := (sumOf s.regs.a b cin).2 }
    let cin := if s.flags.c then 1 else 0
    exec (.ofAluReg .add r) s = .next (sum (s.reg r) 0) ∧
    exec (.addN n) s = .next (sum n 0) ∧
    exec .addAtHl s = .next ((sum m 0).onBus (readOps s.hl m)) ∧
    exec (.ofAluReg .adc r) s = .next (sum (s.reg r) cin) ∧
    exec (.adcN n) s = .next (sum n cin) ∧
    exec .adcAtHl s = .next ((sum m cin).onBus (readOps s.hl m))

/-- SUB and SBC in every operand form: the difference modulo 256 in A, Z, N = 1, Hf and Cf the borrows; SBC subtracts the old
Cf (rules R118, R125 to R130). -/
def Obligations.SubAndSbcWriteTheDifference : Prop :=
  ∀ (r : Reg8) (n : Byte) (s : State),
    let m := s.bus.fetchByte s.hl
    let difference (b : Byte) (cin : Nat) : State :=
      { s with
        regs := { s.regs with a := (differenceOf s.regs.a b cin).1 }, flags := (differenceOf s.regs.a b cin).2 }
    let cin := if s.flags.c then 1 else 0
    exec (.ofAluReg .sub r) s = .next (difference (s.reg r) 0) ∧
    exec (.subN n) s = .next (difference n 0) ∧
    exec .subAtHl s = .next ((difference m 0).onBus (readOps s.hl m)) ∧
    exec (.ofAluReg .sbc r) s = .next (difference (s.reg r) cin) ∧
    exec (.sbcN n) s = .next (difference n cin) ∧
    exec .sbcAtHl s = .next ((difference m cin).onBus (readOps s.hl m))

/-- CP in every operand form writes the flags of SUB and no register (rules R141 to R143). -/
def Obligations.CpWritesTheFlagsOfSubAndNoRegister : Prop :=
  ∀ (r : Reg8) (n : Byte) (s : State),
    let m := s.bus.fetchByte s.hl
    let compared (b : Byte) : State := { s with flags := (differenceOf s.regs.a b 0).2 }
    exec (.ofAluReg .cp r) s = .next (compared (s.reg r)) ∧
    exec (.cpN n) s = .next (compared n) ∧
    exec .cpAtHl s = .next ((compared m).onBus (readOps s.hl m))

/-- AND, XOR and OR in every operand form, with rule R131's flags (rules R131 to R140). -/
def Obligations.LogicOperationsWriteAAndTheirFlags : Prop :=
  ∀ (r : Reg8) (n : Byte) (s : State),
    let m := s.bus.fetchByte s.hl
    let result (v : Byte) (half : Bool) : State :=
      { s with
        regs := { s.regs with a := v }, flags := { z := decide (v = 0x00), n := false, h := half, c := false } }
    let a := s.regs.a
    exec (.ofAluReg .and r) s = .next (result (a &&& s.reg r) true) ∧
    exec (.andN n) s = .next (result (a &&& n) true) ∧
    exec .andAtHl s = .next ((result (a &&& m) true).onBus (readOps s.hl m)) ∧
    exec (.ofAluReg .xor r) s = .next (result (a ^^^ s.reg r) false) ∧
    exec (.xorN n) s = .next (result (a ^^^ n) false) ∧
    exec .xorAtHl s = .next ((result (a ^^^ m) false).onBus (readOps s.hl m)) ∧
    exec (.ofAluReg .or r) s = .next (result (a ||| s.reg r) false) ∧
    exec (.orN n) s = .next (result (a ||| n) false) ∧
    exec .orAtHl s = .next ((result (a ||| m) false).onBus (readOps s.hl m))

/-- INC and DEC of a register and of the byte at HL: the result modulo 256, Z from it, N, Hf from bit 3, Cf unchanged; on (HL)
a read, then a write at the same address (rules R144 to R147). -/
def Obligations.IncAndDecOfAByte : Prop :=
  ∀ (r : Reg8) (s : State),
    let m := s.bus.fetchByte s.hl
    let up (v : Byte) : Byte := BitVec.ofNat 8 ((v.toNat + 1) % 256)
    let down (v : Byte) : Byte := BitVec.ofNat 8 ((v.toNat + 255) % 256)
    let upFlags (v : Byte) : Flags :=
      { s.flags with z := decide ((v.toNat + 1) % 256 = 0), n := false, h := decide (v.toNat % 16 = 15) }
    let downFlags (v : Byte) : Flags :=
      { s.flags with z := decide ((v.toNat + 255) % 256 = 0), n := true, h := decide (v.toNat % 16 = 0) }
    exec (.ofIncReg r) s = .next { s.setReg r (up (s.reg r)) with flags := upFlags (s.reg r) } ∧
    exec (.ofDecReg r) s = .next { s.setReg r (down (s.reg r)) with flags := downFlags (s.reg r) } ∧
    exec .incAtHl s = .next
      (State.onBus (readOps s.hl m ++ writeOps s.hl (up m)) { s with flags := upFlags m }) ∧
    exec .decAtHl s = .next
      (State.onBus (readOps s.hl m ++ writeOps s.hl (down m)) { s with flags := downFlags m })

/-- DAA: the corrections 0x60 and 0x06 under their conditions, added or subtracted as N says; Z from the result, Hf clear, N
unchanged, Cf set by the additive 0x60 correction and otherwise unchanged (rule R148). -/
def Obligations.DaaCorrectsTheAccumulator : Prop :=
  ∀ s : State,
    let a := s.regs.a.toNat
    let f := s.flags
    let high : Int := if f.c ∨ (¬f.n ∧ a > 0x99) then 0x60 else 0
    let low : Int := if f.h ∨ (¬f.n ∧ a % 16 > 0x09) then 0x06 else 0
    let r : Int := if f.n then a - high - low else a + high + low
    exec .daa s = .next
      { s with
        regs := { s.regs with a := BitVec.ofInt 8 r }
        flags := { z := decide (r % 256 = 0), n := f.n, h := false, c := f.c || (!f.n && decide (a > 0x99)) } }

/-- CPL, SCF and CCF (rules R149 to R151). -/
def Obligations.CplScfAndCcf : Prop :=
  ∀ s : State,
    exec .cpl s = .next
      { s with
        regs := { s.regs with a := BitVec.ofNat 8 (255 - s.regs.a.toNat) }
        flags := { s.flags with n := true, h := true } } ∧
    exec .scf s = .next { s with flags := ⟨s.flags.z, false, false, true⟩ } ∧
    exec .ccf s = .next { s with flags := ⟨s.flags.z, false, false, !s.flags.c⟩ }

/-- RLCA, RLA, RRCA and RRA: the rotated A, Z, N and Hf clear whatever the result, Cf the bit rotated out (rules R152 to
R156). -/
def Obligations.AccumulatorRotatesClearZ : Prop :=
  ∀ s : State,
    let rotated (op : RotOp) : Outcome :=
      let x := rotatedOf op s.regs.a.toNat (if s.flags.c then 1 else 0)
      .next { s with regs := { s.regs with a := BitVec.ofNat 8 x.1 }, flags := ⟨false, false, false, x.2⟩ }
    exec .rlca s = rotated .rlc ∧ exec .rla s = rotated .rl ∧ exec .rrca s = rotated .rrc ∧ exec .rra s = rotated .rr

/-! ## 16-bit arithmetic -/

/-- ADD HL,rr: the sum modulo 65536, Z unchanged, N clear, Hf the carry out of bit 11, Cf the carry out of bit 15, one internal
M-cycle (rule R157). -/
def Obligations.AddHlPairKeepsZ : Prop :=
  ∀ (p : Pair) (s : State),
    let a := s.hl.toNat
    let b := (s.pair p).toNat
    exec (.ofAddHlPair p) s = .next
      (State.onBus (tickOps 4)
        { s.setPair .hl (BitVec.ofNat 16 ((a + b) % 65536)) with
          flags :=
            { z := s.flags.z, n := false, h := decide (a % 4096 + b % 4096 > 0x0FFF), c := decide (a + b > 0xFFFF) } })

/-- INC rr and DEC rr wrap modulo 65536, write no flag and spend one internal M-cycle (rules R158, R159). -/
def Obligations.IncAndDecOfAPairWriteNoFlag : Prop :=
  ∀ (p : Pair) (s : State),
    let v := (s.pair p).toNat
    exec (.ofIncPair p) s = .next ((s.setPair p (BitVec.ofNat 16 ((v + 1) % 65536))).onBus (tickOps 4)) ∧
    exec (.ofDecPair p) s = .next ((s.setPair p (BitVec.ofNat 16 ((v + 65535) % 65536))).onBus (tickOps 4))

/-! ## Control transfer -/

/-- JP nn, JP cc,nn and JP HL: PC at the target after an internal M-cycle, JP HL without one; a condition that does not hold
leaves everything as it is (rules R161 to R164). -/
def Obligations.AbsoluteJumps : Prop :=
  ∀ (cc : Cond) (nn : Word) (s : State),
    exec (.jpNn nn) s = .next (State.onBus (tickOps 4) { s with pc := nn }) ∧
    (s.cond cc = true → exec (.ofJp cc nn) s = .next (State.onBus (tickOps 4) { s with pc := nn })) ∧
    (s.cond cc = false → exec (.ofJp cc nn) s = .next s) ∧
    exec .jpHl s = .next { s with pc := s.hl } ∧
    s.cond .nz = !s.flags.z ∧ s.cond .z = s.flags.z ∧ s.cond .nc = !s.flags.c ∧ s.cond .c = s.flags.c

/-- JR e and JR cc,e: the signed displacement added to the address after the instruction, modulo 65536 (rules R165, R166). -/
def Obligations.RelativeJumps : Prop :=
  ∀ (cc : Cond) (e : Byte) (s : State),
    let target := BitVec.ofInt 16 ((s.pc.toNat : Int) + e.toInt)
    exec (.jrE e) s = .next (State.onBus (tickOps 4) { s with pc := target }) ∧
    (s.cond cc = true → exec (.ofJr cc e) s = .next (State.onBus (tickOps 4) { s with pc := target })) ∧
    (s.cond cc = false → exec (.ofJr cc e) s = .next s)

/-- CALL nn, CALL cc,nn and RST t: an internal M-cycle, the return address pushed, PC at the target; a condition that does not
hold leaves everything as it is (rules R167, R168, R172). -/
def Obligations.CallsAndRestartsPushTheReturnAddress : Prop :=
  ∀ (cc : Cond) (nn : Word) (y : Fin 8) (s : State),
    let called (target : Word) : Outcome :=
      .next (State.onBus
        (tickOps 4 ++ writeOps (s.sp - 1) (hiByte s.pc) ++ writeOps (s.sp - 2) (loByte s.pc))
        { s with sp := s.sp - 2, pc := target })
    exec (.callNn nn) s = called nn ∧
    (s.cond cc = true → exec (.ofCall cc nn) s = called nn) ∧
    (s.cond cc = false → exec (.ofCall cc nn) s = .next s) ∧
    exec (.ofRst y) s = called (BitVec.ofNat 16 (y.val * 8))

/-- RET, RET cc and RETI: PC popped low byte first, then an internal M-cycle; RET cc spends one more for its test, taken or
not; RETI also sets IME and clears PEND at once (rules R169 to R171). -/
def Obligations.ReturnsPopPc : Prop :=
  ∀ (cc : Cond) (s : State),
    let returned (before : List BusOp) (t : State) : Outcome :=
      let b := s.bus.replay before
      let lo := b.fetchByte s.sp
      let hi := (b.replay (readOps s.sp lo)).fetchByte (s.sp + 1)
      .next (State.onBus (before ++ readOps s.sp lo ++ readOps (s.sp + 1) hi ++ tickOps 4)
        { t with sp := s.sp + 2, pc := BitVec.ofNat 16 (hi.toNat * 256 + lo.toNat) })
    exec .ret s = returned [] s ∧
    exec .reti s = returned [] { s with ime := true, pend := false } ∧
    (s.cond cc = true → exec (.ofRet cc) s = returned (tickOps 4) s) ∧
    (s.cond cc = false → exec (.ofRet cc) s = .next (s.onBus (tickOps 4)))

/-! ## The extended table -/

/-- The CB rotates, shifts and SWAP of a register: the result, Z from it, N and Hf clear, Cf the outgoing bit (rules R180,
R182, R184, R186, R188, R190, R192, R194, R196). -/
def Obligations.CbRotatesOfARegister : Prop :=
  ∀ (op : RotOp) (r : Reg8) (s : State),
    let x := rotatedOf op (s.reg r).toNat (if s.flags.c then 1 else 0)
    exec (.ofRotReg op r) s = .next
      { s.setReg r (BitVec.ofNat 8 x.1) with flags := ⟨decide (x.1 = 0), false, false, x.2⟩ }

/-- The same on the byte at HL: a read, then a write at that address (rules R181, R183, R185, R187, R189, R191, R193, R195,
R197). -/
def Obligations.CbRotatesOfTheByteAtHl : Prop :=
  ∀ (op : RotOp) (s : State),
    let b := s.bus.fetchByte s.hl
    let x := rotatedOf op b.toNat (if s.flags.c then 1 else 0)
    exec (.ofRotAtHl op) s = .next
      (State.onBus (readOps s.hl b ++ writeOps s.hl (BitVec.ofNat 8 x.1))
        { s with flags := ⟨decide (x.1 = 0), false, false, x.2⟩ })

/-- BIT: Z = not bit b, N = 0, Hf = 1, Cf unchanged, no register or memory written; on (HL) one read, and an internal M-cycle
where BIT_HL_TICKS is 16 (rules R198, R199). -/
def Obligations.BitTestsABitAndWritesOnlyFlags : Prop :=
  ∀ (b : Fin 8) (r : Reg8) (s : State),
    let m := s.bus.fetchByte s.hl
    let tested (v : Byte) : State :=
      { s with flags := ⟨decide (v.toNat / 2 ^ b.val % 2 = 0), false, true, s.flags.c⟩ }
    exec (.ofBitReg b r) s = .next (tested (s.reg r)) ∧
    (s.cfg.bitHlTicks = .sixteen → exec (.ofBitAtHl b) s = .next ((tested m).onBus (readOps s.hl m ++ tickOps 4))) ∧
    (s.cfg.bitHlTicks = .twelve → exec (.ofBitAtHl b) s = .next ((tested m).onBus (readOps s.hl m)))

/-- RES and SET: bit b of the operand cleared or set, every other bit as it was, no flag written; on (HL) a read, then a write,
which always happens (rules R200 to R203). -/
def Obligations.ResAndSetChangeOneBitAndNoFlag : Prop :=
  ∀ (b : Fin 8) (r : Reg8) (s : State),
    let m := s.bus.fetchByte s.hl
    ∃ res set : Byte → Byte,
      (∀ (v : Byte) (k : Nat), k < 8 →
        (res v).getLsbD k = (v.getLsbD k && decide (k ≠ b.val)) ∧
        (set v).getLsbD k = (v.getLsbD k || decide (k = b.val))) ∧
      exec (.ofResReg b r) s = .next (s.setReg r (res (s.reg r))) ∧
      exec (.ofSetReg b r) s = .next (s.setReg r (set (s.reg r))) ∧
      exec (.ofResAtHl b) s = .next (s.onBus (readOps s.hl m ++ writeOps s.hl (res m))) ∧
      exec (.ofSetAtHl b) s = .next (s.onBus (readOps s.hl m ++ writeOps s.hl (set m)))

/-! ## The whole machine -/

/-- Every instruction completes in every state: no instruction faults, is refused or depends on a mode (rules R214, R215). That
STOP and the 11 illegal bytes, which rule R213 excepts, answer a next state that holds the fatal record is the model's choice
(log 5), and so is the escape as an instruction of its own (log 11). -/
def Obligations.EveryInstructionCompletesInEveryState : Prop :=
  ∀ (i : Instr) (s : State), ∃ t : State, exec i s = .next t

/-- Every step keeps the invariant `State.inv`: memory in canonical form, (IME, PEND) never (true, true), HALTBUG only where
rule R31 allows it, `cyc` the ticks of the step (rules R29, R31, R33, R86). -/
def Obligations.EveryStepKeepsTheInvariant : Prop :=
  ∀ s t : State, s.inv → step s = .next t → t.inv

/-- The invariant `State.inv` holds at reset, with any parameters and on any bus whose memory is in canonical form (rules R29,
R31, R37; memory at `State.reset` is the model's choice, logs 3 and 4). -/
def Obligations.ResetMeetsTheInvariant : Prop :=
  State.reset.inv ∧ ∀ (cfg : Config) (bus : Bus), bus.mem.wf = true → (State.resetWith cfg bus).inv

/-- The operations recorded are all a step does to the bus, and its ticks are the step's count: replaying them on the bus
before the step gives the bus after it (rules R39, R53, R86; the record is the model's own field, log 7). -/
def Obligations.TheRecordedOperationsAreAllTheBusSees : Prop :=
  ∀ s t : State, step s = .next t → t.bus = s.bus.replay t.trace ∧ t.cyc = ticksIn t.trace

/-- No step changes a parameter, BUS included (rule R8; parameters as fields of State are the model's choice, logs 1 and 8). -/
def Obligations.NoStepChangesAParameter : Prop :=
  ∀ s t : State, step s = .next t → t.cfg = s.cfg ∧ t.bus.model = s.bus.model

/-- On a quiet bus an instruction leaves every byte of memory as it was but those at the addresses it stores to, as
`storedAddrs` computes them from the state after its fetches; a form that stores nothing leaves all of memory as it was
(rules R41, R53; a store that lands, and a quiet bus, are the model's own, logs 1 and 2). -/
def Obligations.MemoryChangesOnlyAtTheAddressesStoredTo : Prop :=
  ∀ (i : Instr) (s t : State), s.bus.quiet = true → exec i s = .next t →
    ∀ x : Word, x ∉ storedAddrs i s → t.bus.fetchByte x = s.bus.fetchByte x

/-- Every instruction treats each flag as rule R26's table says: forced, unchanged or computed; interrupt entry writes none. -/
def Obligations.FlagsFollowTheTable : Prop :=
  (∀ (i : Instr) (s t : State), i.wellFormed = true → exec i s = .next t →
    (flagRow i).z.allows s.flags.z t.flags.z ∧ (flagRow i).n.allows s.flags.n t.flags.n ∧
    (flagRow i).h.allows s.flags.h t.flags.h ∧ (flagRow i).c.allows s.flags.c t.flags.c) ∧
  ∀ (s t : State) (it : IntSource), s.ime = true → s.bus.nextInterrupt = some it → step s = .next t → t.flags = s.flags

/-- Of the instructions, LD SP, INC SP, DEC SP, ADD SP,e, POP, PUSH, CALL, RET, RETI and RST alone write SP; no row of the
extended table writes it (rule R21, which lists interrupt entry beside them: that one is no instruction, and
InterruptEntryPushesPcAndGoesToTheVector gives its SP). -/
def Obligations.OnlyStackInstructionsWriteSp : Prop :=
  ∀ (i : Instr) (s t : State) (op : Byte), (encode i).head? = some op → writesSp op.toNat = false →
    exec i s = .next t → t.sp = s.sp

/-- The enable-latency machine: what EI, DI, RETI, interrupt entry and the promotion do to (IME, PEND), and that no other
instruction changes either; interrupts are asked for only with IME set (rule R207). -/
def Obligations.EnableLatencyMachine : Prop :=
  (∀ s t : State, exec .ei s = .next t →
    ((s.ime, s.pend) = (false, false) → (t.ime, t.pend) = (false, true)) ∧
    ((s.ime, s.pend) = (false, true) → (t.ime, t.pend) = (false, true)) ∧
    ((s.ime, s.pend) = (true, false) → (t.ime, t.pend) = (true, false))) ∧
  (∀ s t : State, exec .di s = .next t → (t.ime, t.pend) = (false, false)) ∧
  (∀ s t : State, exec .reti s = .next t → (t.ime, t.pend) = (true, false)) ∧
  (∀ (i : Instr) (s t : State), i ≠ .ei → i ≠ .di → i ≠ .reti → exec i s = .next t →
    (t.ime, t.pend) = (s.ime, s.pend)) ∧
  (∀ (s t : State) (it : IntSource), s.fatal = none → s.ime = true → s.bus.nextInterrupt = some it →
    step s = .next t → (t.ime, t.pend) = (false, false)) ∧
  (∀ s u : State, s.noInterrupt → beforeFetch s = .fetching u ∨ beforeFetch s = .finished u →
    ((s.ime, s.pend) = (false, true) → (u.ime, u.pend) = (true, false)) ∧
    ((s.ime, s.pend) ≠ (false, true) → (u.ime, u.pend) = (s.ime, s.pend))) ∧
  (∀ s t : State, s.ime = false → step s = .next t → ∀ it, .nextInterruptAck it ∉ t.trace) ∧
  (State.reset.ime, State.reset.pend) = (true, false)

/-- With the default parameters every step takes the ticks of rule R231's tables: an instruction its entry, with the
conditional ones by the condition; interrupt entry 32; a halted step that stays halted 4; one that wakes 4 more than its
instruction (rule R231; that a fatal row's 4 ticks stand in the `cyc` of a next state is the model's choice, log 5). -/
def Obligations.EveryStepTakesTheTicksOfTheTable : Prop :=
  ∀ s t : State, s.fatal = none → s.cfg = .default → step s = .next t →
    (∀ it, s.ime = true → s.bus.nextInterrupt = some it → t.cyc = 32) ∧
    (s.noInterrupt → ∀ v, beforeFetch s = .finished v → t.cyc = 4) ∧
    (∀ u, beforeFetch s = .fetching u →
      let op := u.bus.fetchByte u.pc
      let second := (u.bus.replay (readOps u.pc op)).fetchByte (if u.haltBug then u.pc else u.pc + 1)
      t.cyc = (if s.halted then 4 else 0) + ticksOf op second u)

/-- With the default parameters a step takes at most 32 ticks, and at most 28 where no interrupt is entered (rule R33). -/
def Obligations.AStepTakesAtMostThirtyTwoTicks : Prop :=
  ∀ s t : State, s.cfg = .default → step s = .next t → t.cyc ≤ 32 ∧ (s.noInterrupt → t.cyc ≤ 28)

/-- An interrupt condition is raised by the bus's `step()` and by no other operation of the block, and a step of the machine
that finds it pending and leaves it cleared has acknowledged it: `next_interrupt_ack()` returned it (rule R205; that a store
raises nothing before the next tick is the model's reading, log 15). -/
def Obligations.ConditionsAreRaisedByTicksAndClearedByTheAcknowledge : Prop :=
  (∀ (b : Bus) (op : BusOp) (x : IntSource),
    b.pending.has x = false → (b.perform op).pending.has x = true → op = .step) ∧
  ∀ (s t : State) (x : IntSource), step s = .next t →
    s.bus.pending.has x = true → t.bus.pending.has x = false →
    s.ime = true ∧ ∃ rest : List BusOp, t.trace = .nextInterruptAck (some x) :: rest
end

