-- ==== Sys2Proof/Laws/Memory.lean ====
section
/-! SUPPORT. Memory: a read after a write, and the canonical form that every operation keeps. -/

namespace Sys2Proof.Machine

theorem Memory.read_erase (m : Memory) (x y : Nat) :
    (m.erase x).read y = if y = x then Memory.unlisted else m.read y := by
  induction m with
  | nil => simp [Memory.erase, Memory.read]
  | cons c rest ih =>
    obtain ⟨a, w⟩ := c
    by_cases hax : a = x
    · subst hax
      simp only [Memory.erase, if_true, ih, Memory.read]
      by_cases hya : y = a
      · simp [hya]
      · have : a ≠ y := fun h => hya h.symm
        simp [hya, this]
    · simp only [Memory.erase, if_neg hax, Memory.read, ih]
      by_cases hay : a = y
      · subst hay
        simp [hax]
      · simp [hay]

theorem Memory.read_insert (m : Memory) (x y : Nat) (v : Byte) (h : ∀ c ∈ m, c.1 ≠ x) :
    (m.insert x v).read y = if y = x then v else m.read y := by
  induction m with
  | nil =>
    simp only [Memory.insert, Memory.read]
    by_cases hyx : y = x
    · simp [hyx]
    · have : x ≠ y := fun h => hyx h.symm
      simp [hyx, this]
  | cons c rest ih =>
    obtain ⟨a, w⟩ := c
    have hax : a ≠ x := h (a, w) (by simp)
    have ih := ih fun c hc => h c (by simp [hc])
    by_cases hlt : x < a
    · simp only [Memory.insert, if_pos hlt, Memory.read]
      by_cases hyx : y = x
      · simp [hyx]
      · have : x ≠ y := fun h => hyx h.symm
        simp [hyx, this]
    · simp only [Memory.insert, if_neg hlt, Memory.read, ih]
      by_cases hay : a = y
      · subst hay
        simp [hax]
      · simp [hay]

theorem Memory.not_mem_erase (m : Memory) (x : Nat) : ∀ c ∈ m.erase x, c.1 ≠ x := by
  induction m with
  | nil => simp [Memory.erase]
  | cons c rest ih =>
    obtain ⟨a, w⟩ := c
    by_cases hax : a = x
    · simpa [Memory.erase, hax] using ih
    · intro d hd
      simp only [Memory.erase, if_neg hax, List.mem_cons] at hd
      rcases hd with rfl | hd
      · exact hax
      · exact ih d hd

/-- A read after a write: the value written at that address, what was there at every other. -/
theorem Memory.read_write (m : Memory) (x y : Nat) (v : Byte) :
    (m.write x v).read y = if y = x then v else m.read y := by
  unfold Memory.write
  split
  · rename_i hv
    rw [Memory.read_erase, hv]
  · rw [Memory.read_insert _ _ _ _ (Memory.not_mem_erase m x), Memory.read_erase]
    split <;> rfl

theorem Memory.wfFrom_cons (lo a : Nat) (w : Byte) (rest : Memory) :
    Memory.wfFrom lo ((a, w) :: rest) = true ↔
      lo ≤ a ∧ a < 65536 ∧ w ≠ Memory.unlisted ∧ Memory.wfFrom (a + 1) rest = true := by
  simp [Memory.wfFrom, and_assoc]

theorem Memory.wfFrom_mono {lo lo' : Nat} (m : Memory) (h : lo' ≤ lo) (hm : Memory.wfFrom lo m = true) :
    Memory.wfFrom lo' m = true := by
  cases m with
  | nil => rfl
  | cons c rest =>
    obtain ⟨a, w⟩ := c
    rw [Memory.wfFrom_cons] at hm ⊢
    exact ⟨by omega, hm.2⟩

theorem Memory.wfFrom_erase (m : Memory) (x lo : Nat) (hm : Memory.wfFrom lo m = true) :
    Memory.wfFrom lo (m.erase x) = true := by
  induction m generalizing lo with
  | nil => rfl
  | cons c rest ih =>
    obtain ⟨a, w⟩ := c
    rw [Memory.wfFrom_cons] at hm
    by_cases hax : a = x
    · simp only [Memory.erase, if_pos hax]
      exact Memory.wfFrom_mono _ (by omega) (ih _ hm.2.2.2)
    · simp only [Memory.erase, if_neg hax]
      rw [Memory.wfFrom_cons]
      exact ⟨hm.1, hm.2.1, hm.2.2.1, ih _ hm.2.2.2⟩

theorem Memory.wfFrom_insert (m : Memory) (x lo : Nat) (v : Byte) (hx : lo ≤ x) (hx' : x < 65536)
    (hv : v ≠ Memory.unlisted) (h : ∀ c ∈ m, c.1 ≠ x) (hm : Memory.wfFrom lo m = true) :
    Memory.wfFrom lo (m.insert x v) = true := by
  induction m generalizing lo with
  | nil =>
    simp only [Memory.insert]
    rw [Memory.wfFrom_cons]
    exact ⟨hx, hx', hv, rfl⟩
  | cons c rest ih =>
    obtain ⟨a, w⟩ := c
    have hax : a ≠ x := h (a, w) (by simp)
    rw [Memory.wfFrom_cons] at hm
    by_cases hlt : x < a
    · simp only [Memory.insert, if_pos hlt]
      rw [Memory.wfFrom_cons, Memory.wfFrom_cons]
      exact ⟨hx, hx', hv, by omega, hm.2.1, hm.2.2.1, hm.2.2.2⟩
    · simp only [Memory.insert, if_neg hlt]
      rw [Memory.wfFrom_cons]
      exact ⟨hm.1, hm.2.1, hm.2.2.1, ih _ (by omega) (fun c hc => h c (by simp [hc])) hm.2.2.2⟩

/-- A write keeps the canonical form. -/
theorem Memory.wf_write (m : Memory) (x : Nat) (v : Byte) (hx : x < 65536) (hm : m.wf = true) :
    (m.write x v).wf = true := by
  unfold Memory.write
  split
  · exact Memory.wfFrom_erase _ _ _ hm
  · rename_i hv
    exact Memory.wfFrom_insert _ _ _ _ (by omega) hx hv (Memory.not_mem_erase m x) (Memory.wfFrom_erase _ _ _ hm)

end Sys2Proof.Machine
end

