-- ==== Sys2Proof/Laws/State.lean ====
section
/-! SUPPORT. One lemma per field of the state per named update, and the laws of the register file, the pairs, the flag
byte and the byte order. -/

namespace Sys2Proof.Machine

/-! ## Fields of the updates -/

@[simp] theorem setReg_regs (s : State) (r : Reg8) (v : Byte) : (s.setReg r v).regs = s.regs.set r v := rfl
@[simp] theorem setReg_flags (s : State) (r : Reg8) (v : Byte) : (s.setReg r v).flags = s.flags := rfl
@[simp] theorem setReg_sp (s : State) (r : Reg8) (v : Byte) : (s.setReg r v).sp = s.sp := rfl
@[simp] theorem setReg_pc (s : State) (r : Reg8) (v : Byte) : (s.setReg r v).pc = s.pc := rfl
@[simp] theorem setReg_ime (s : State) (r : Reg8) (v : Byte) : (s.setReg r v).ime = s.ime := rfl
@[simp] theorem setReg_pend (s : State) (r : Reg8) (v : Byte) : (s.setReg r v).pend = s.pend := rfl
@[simp] theorem setReg_halted (s : State) (r : Reg8) (v : Byte) : (s.setReg r v).halted = s.halted := rfl
@[simp] theorem setReg_haltBug (s : State) (r : Reg8) (v : Byte) : (s.setReg r v).haltBug = s.haltBug := rfl
@[simp] theorem setReg_fatal (s : State) (r : Reg8) (v : Byte) : (s.setReg r v).fatal = s.fatal := rfl
@[simp] theorem setReg_cyc (s : State) (r : Reg8) (v : Byte) : (s.setReg r v).cyc = s.cyc := rfl
@[simp] theorem setReg_opaddr (s : State) (r : Reg8) (v : Byte) : (s.setReg r v).opaddr = s.opaddr := rfl
@[simp] theorem setReg_cfg (s : State) (r : Reg8) (v : Byte) : (s.setReg r v).cfg = s.cfg := rfl
@[simp] theorem setReg_bus (s : State) (r : Reg8) (v : Byte) : (s.setReg r v).bus = s.bus := rfl
@[simp] theorem setReg_trace (s : State) (r : Reg8) (v : Byte) : (s.setReg r v).trace = s.trace := rfl

@[simp] theorem record_regs (s : State) (op : BusOp) : (s.record op).regs = s.regs := rfl
@[simp] theorem record_flags (s : State) (op : BusOp) : (s.record op).flags = s.flags := rfl
@[simp] theorem record_sp (s : State) (op : BusOp) : (s.record op).sp = s.sp := rfl
@[simp] theorem record_pc (s : State) (op : BusOp) : (s.record op).pc = s.pc := rfl
@[simp] theorem record_ime (s : State) (op : BusOp) : (s.record op).ime = s.ime := rfl
@[simp] theorem record_pend (s : State) (op : BusOp) : (s.record op).pend = s.pend := rfl
@[simp] theorem record_halted (s : State) (op : BusOp) : (s.record op).halted = s.halted := rfl
@[simp] theorem record_haltBug (s : State) (op : BusOp) : (s.record op).haltBug = s.haltBug := rfl
@[simp] theorem record_fatal (s : State) (op : BusOp) : (s.record op).fatal = s.fatal := rfl
@[simp] theorem record_cyc (s : State) (op : BusOp) : (s.record op).cyc = s.cyc := rfl
@[simp] theorem record_opaddr (s : State) (op : BusOp) : (s.record op).opaddr = s.opaddr := rfl
@[simp] theorem record_cfg (s : State) (op : BusOp) : (s.record op).cfg = s.cfg := rfl
@[simp] theorem record_bus (s : State) (op : BusOp) : (s.record op).bus = s.bus := rfl
@[simp] theorem record_trace (s : State) (op : BusOp) : (s.record op).trace = s.trace ++ [op] := rfl

@[simp] theorem onBus_regs (s : State) (ops : List BusOp) : (s.onBus ops).regs = s.regs := rfl
@[simp] theorem onBus_flags (s : State) (ops : List BusOp) : (s.onBus ops).flags = s.flags := rfl
@[simp] theorem onBus_sp (s : State) (ops : List BusOp) : (s.onBus ops).sp = s.sp := rfl
@[simp] theorem onBus_pc (s : State) (ops : List BusOp) : (s.onBus ops).pc = s.pc := rfl
@[simp] theorem onBus_ime (s : State) (ops : List BusOp) : (s.onBus ops).ime = s.ime := rfl
@[simp] theorem onBus_pend (s : State) (ops : List BusOp) : (s.onBus ops).pend = s.pend := rfl
@[simp] theorem onBus_halted (s : State) (ops : List BusOp) : (s.onBus ops).halted = s.halted := rfl
@[simp] theorem onBus_haltBug (s : State) (ops : List BusOp) : (s.onBus ops).haltBug = s.haltBug := rfl
@[simp] theorem onBus_fatal (s : State) (ops : List BusOp) : (s.onBus ops).fatal = s.fatal := rfl
@[simp] theorem onBus_cyc (s : State) (ops : List BusOp) : (s.onBus ops).cyc = s.cyc + ticksIn ops := rfl
@[simp] theorem onBus_opaddr (s : State) (ops : List BusOp) : (s.onBus ops).opaddr = s.opaddr := rfl
@[simp] theorem onBus_cfg (s : State) (ops : List BusOp) : (s.onBus ops).cfg = s.cfg := rfl
@[simp] theorem onBus_bus (s : State) (ops : List BusOp) : (s.onBus ops).bus = s.bus.replay ops := rfl
@[simp] theorem onBus_trace (s : State) (ops : List BusOp) : (s.onBus ops).trace = s.trace ++ ops := rfl

@[simp] theorem beginStep_regs (s : State) : (beginStep s).regs = s.regs := rfl
@[simp] theorem beginStep_flags (s : State) : (beginStep s).flags = s.flags := rfl
@[simp] theorem beginStep_sp (s : State) : (beginStep s).sp = s.sp := rfl
@[simp] theorem beginStep_pc (s : State) : (beginStep s).pc = s.pc := rfl
@[simp] theorem beginStep_ime (s : State) : (beginStep s).ime = s.ime := rfl
@[simp] theorem beginStep_pend (s : State) : (beginStep s).pend = s.pend := rfl
@[simp] theorem beginStep_halted (s : State) : (beginStep s).halted = s.halted := rfl
@[simp] theorem beginStep_haltBug (s : State) : (beginStep s).haltBug = s.haltBug := rfl
@[simp] theorem beginStep_fatal (s : State) : (beginStep s).fatal = s.fatal := rfl
@[simp] theorem beginStep_cyc (s : State) : (beginStep s).cyc = 0 := rfl
@[simp] theorem beginStep_opaddr (s : State) : (beginStep s).opaddr = s.opaddr := rfl
@[simp] theorem beginStep_cfg (s : State) : (beginStep s).cfg = s.cfg := rfl
@[simp] theorem beginStep_bus (s : State) : (beginStep s).bus = s.bus := rfl
@[simp] theorem beginStep_trace (s : State) : (beginStep s).trace = [] := rfl

@[simp] theorem raiseFatal_regs (s : State) (k : FatalKind) (op : Byte) : (raiseFatal k op s).regs = s.regs := rfl
@[simp] theorem raiseFatal_flags (s : State) (k : FatalKind) (op : Byte) : (raiseFatal k op s).flags = s.flags := rfl
@[simp] theorem raiseFatal_sp (s : State) (k : FatalKind) (op : Byte) : (raiseFatal k op s).sp = s.sp := rfl
@[simp] theorem raiseFatal_pc (s : State) (k : FatalKind) (op : Byte) : (raiseFatal k op s).pc = s.pc := rfl
@[simp] theorem raiseFatal_ime (s : State) (k : FatalKind) (op : Byte) : (raiseFatal k op s).ime = s.ime := rfl
@[simp] theorem raiseFatal_pend (s : State) (k : FatalKind) (op : Byte) : (raiseFatal k op s).pend = s.pend := rfl
@[simp] theorem raiseFatal_halted (s : State) (k : FatalKind) (op : Byte) : (raiseFatal k op s).halted = s.halted := rfl
@[simp] theorem raiseFatal_haltBug (s : State) (k : FatalKind) (op : Byte) : (raiseFatal k op s).haltBug = s.haltBug := rfl
@[simp] theorem raiseFatal_fatal (s : State) (k : FatalKind) (op : Byte) : (raiseFatal k op s).fatal = some ⟨k, op, s.opaddr⟩ := rfl
@[simp] theorem raiseFatal_cyc (s : State) (k : FatalKind) (op : Byte) : (raiseFatal k op s).cyc = s.cyc := rfl
@[simp] theorem raiseFatal_opaddr (s : State) (k : FatalKind) (op : Byte) : (raiseFatal k op s).opaddr = s.opaddr := rfl
@[simp] theorem raiseFatal_cfg (s : State) (k : FatalKind) (op : Byte) : (raiseFatal k op s).cfg = s.cfg := rfl
@[simp] theorem raiseFatal_bus (s : State) (k : FatalKind) (op : Byte) : (raiseFatal k op s).bus = s.bus := rfl
@[simp] theorem raiseFatal_trace (s : State) (k : FatalKind) (op : Byte) : (raiseFatal k op s).trace = s.trace := rfl

@[simp] theorem opened_regs (s : State) : (s.opened).regs = s.regs := rfl
@[simp] theorem opened_flags (s : State) : (s.opened).flags = s.flags := rfl
@[simp] theorem opened_sp (s : State) : (s.opened).sp = s.sp := rfl
@[simp] theorem opened_pc (s : State) : (s.opened).pc = s.pc := rfl
@[simp] theorem opened_ime (s : State) : (s.opened).ime = (s.ime || s.pend) := rfl
@[simp] theorem opened_pend (s : State) : (s.opened).pend = (s.ime && s.pend) := rfl
@[simp] theorem opened_halted (s : State) : (s.opened).halted = s.halted := rfl
@[simp] theorem opened_haltBug (s : State) : (s.opened).haltBug = s.haltBug := rfl
@[simp] theorem opened_fatal (s : State) : (s.opened).fatal = s.fatal := rfl
@[simp] theorem opened_cyc (s : State) : (s.opened).cyc = 0 := rfl
@[simp] theorem opened_opaddr (s : State) : (s.opened).opaddr = s.opaddr := rfl
@[simp] theorem opened_cfg (s : State) : (s.opened).cfg = s.cfg := rfl
@[simp] theorem opened_bus (s : State) : (s.opened).bus = s.bus := rfl
@[simp] theorem opened_trace (s : State) : (s.opened).trace = if s.ime then [.nextInterruptAck none] else [] := rfl

@[simp] theorem setPair_flags (s : State) (p : Pair) (v : Word) : (s.setPair p v).flags = s.flags := by cases p <;> rfl
@[simp] theorem setPair_pc (s : State) (p : Pair) (v : Word) : (s.setPair p v).pc = s.pc := by cases p <;> rfl
@[simp] theorem setPair_ime (s : State) (p : Pair) (v : Word) : (s.setPair p v).ime = s.ime := by cases p <;> rfl
@[simp] theorem setPair_pend (s : State) (p : Pair) (v : Word) : (s.setPair p v).pend = s.pend := by cases p <;> rfl
@[simp] theorem setPair_halted (s : State) (p : Pair) (v : Word) : (s.setPair p v).halted = s.halted := by cases p <;> rfl
@[simp] theorem setPair_haltBug (s : State) (p : Pair) (v : Word) : (s.setPair p v).haltBug = s.haltBug := by cases p <;> rfl
@[simp] theorem setPair_fatal (s : State) (p : Pair) (v : Word) : (s.setPair p v).fatal = s.fatal := by cases p <;> rfl
@[simp] theorem setPair_cyc (s : State) (p : Pair) (v : Word) : (s.setPair p v).cyc = s.cyc := by cases p <;> rfl
@[simp] theorem setPair_opaddr (s : State) (p : Pair) (v : Word) : (s.setPair p v).opaddr = s.opaddr := by cases p <;> rfl
@[simp] theorem setPair_cfg (s : State) (p : Pair) (v : Word) : (s.setPair p v).cfg = s.cfg := by cases p <;> rfl
@[simp] theorem setPair_bus (s : State) (p : Pair) (v : Word) : (s.setPair p v).bus = s.bus := by cases p <;> rfl
@[simp] theorem setPair_trace (s : State) (p : Pair) (v : Word) : (s.setPair p v).trace = s.trace := by cases p <;> rfl

@[simp] theorem setStackPair_pc (s : State) (q : StackPair) (v : Word) : (s.setStackPair q v).pc = s.pc := by cases q <;> rfl
@[simp] theorem setStackPair_ime (s : State) (q : StackPair) (v : Word) : (s.setStackPair q v).ime = s.ime := by cases q <;> rfl
@[simp] theorem setStackPair_pend (s : State) (q : StackPair) (v : Word) : (s.setStackPair q v).pend = s.pend := by cases q <;> rfl
@[simp] theorem setStackPair_halted (s : State) (q : StackPair) (v : Word) : (s.setStackPair q v).halted = s.halted := by cases q <;> rfl
@[simp] theorem setStackPair_haltBug (s : State) (q : StackPair) (v : Word) : (s.setStackPair q v).haltBug = s.haltBug := by cases q <;> rfl
@[simp] theorem setStackPair_fatal (s : State) (q : StackPair) (v : Word) : (s.setStackPair q v).fatal = s.fatal := by cases q <;> rfl
@[simp] theorem setStackPair_cyc (s : State) (q : StackPair) (v : Word) : (s.setStackPair q v).cyc = s.cyc := by cases q <;> rfl
@[simp] theorem setStackPair_opaddr (s : State) (q : StackPair) (v : Word) : (s.setStackPair q v).opaddr = s.opaddr := by cases q <;> rfl
@[simp] theorem setStackPair_cfg (s : State) (q : StackPair) (v : Word) : (s.setStackPair q v).cfg = s.cfg := by cases q <;> rfl
@[simp] theorem setStackPair_bus (s : State) (q : StackPair) (v : Word) : (s.setStackPair q v).bus = s.bus := by cases q <;> rfl
@[simp] theorem setStackPair_trace (s : State) (q : StackPair) (v : Word) : (s.setStackPair q v).trace = s.trace := by cases q <;> rfl

@[simp] theorem setStackPair_sp (s : State) (q : StackPair) (v : Word) : (s.setStackPair q v).sp = s.sp := by cases q <;> rfl

@[simp] theorem poke_model (b : Bus) (a : Nat) (v : Byte) : (b.poke a v).model = b.model := rfl
@[simp] theorem poke_mem (b : Bus) (a : Nat) (v : Byte) : (b.poke a v).mem = b.mem.write (a % 65536) v := rfl
@[simp] theorem poke_regs (b : Bus) (a : Nat) (v : Byte) : (b.poke a v).regs = b.regs := rfl
@[simp] theorem poke_pending (b : Bus) (a : Nat) (v : Byte) : (b.poke a v).pending = b.pending := rfl
@[simp] theorem poke_enabled (b : Bus) (a : Nat) (v : Byte) : (b.poke a v).enabled = b.enabled := rfl
@[simp] theorem poke_inbox (b : Bus) (a : Nat) (v : Byte) : (b.poke a v).inbox = b.inbox := rfl

/-! ## Register file, pairs, flags, byte order -/

@[simp] theorem Regs.get_set_same (g : Regs) (r : Reg8) (v : Byte) : (g.set r v).get r = v := by cases r <;> rfl

theorem Regs.get_set_other (g : Regs) {r r' : Reg8} (v : Byte) (h : r' ≠ r) : (g.set r v).get r' = g.get r' := by
  cases r <;> cases r' <;> first | rfl | exact absurd rfl h

@[simp] theorem reg_setReg_same (s : State) (r : Reg8) (v : Byte) : (s.setReg r v).reg r = v := Regs.get_set_same _ _ _

theorem toNat_joinBytes (hi lo : Byte) : (joinBytes hi lo).toNat = hi.toNat * 256 + lo.toNat := by
  have := hi.isLt
  have := lo.isLt
  simp only [joinBytes, BitVec.toNat_ofNat]
  omega

theorem toNat_hiByte (v : Word) : (hiByte v).toNat = v.toNat / 256 := by
  have := v.isLt
  simp only [hiByte, BitVec.toNat_ofNat]
  omega

theorem toNat_loByte (v : Word) : (loByte v).toNat = v.toNat % 256 := by
  simp only [loByte, BitVec.toNat_ofNat]
  omega

@[simp] theorem hiByte_joinBytes (hi lo : Byte) : hiByte (joinBytes hi lo) = hi := by
  have := lo.isLt
  apply BitVec.eq_of_toNat_eq
  rw [toNat_hiByte, toNat_joinBytes]
  omega

@[simp] theorem loByte_joinBytes (hi lo : Byte) : loByte (joinBytes hi lo) = lo := by
  have := lo.isLt
  apply BitVec.eq_of_toNat_eq
  rw [toNat_loByte, toNat_joinBytes]
  omega

@[simp] theorem joinBytes_hi_lo (v : Word) : joinBytes (hiByte v) (loByte v) = v := by
  apply BitVec.eq_of_toNat_eq
  rw [toNat_joinBytes, toNat_hiByte, toNat_loByte]
  omega

/-- Writing a pair, then reading it, gives the value (rule R19). -/
@[simp] theorem pair_setPair_same (s : State) (p : Pair) (v : Word) : (s.setPair p v).pair p = v := by
  cases p <;> simp [State.pair, State.setPair]

/-- The flag byte holds the four flags (rules R23, R24). -/
@[simp] theorem unpack_pack (f : Flags) : Flags.unpack f.pack = f := by
  obtain ⟨z, n, h, c⟩ := f
  revert z n h c
  decide

/-- F's low nibble is zero (rule R23). -/
theorem pack_lowNibble (f : Flags) : f.pack &&& 0x0F = 0 := by
  obtain ⟨z, n, h, c⟩ := f
  revert z n h c
  decide

end Sys2Proof.Machine
end

