-- ==== Sys2Proof/Laws/Bus.lean ====
section
/-! SUPPORT. The bus: what every operation keeps, whatever stands behind it; plain RAM, its reads after stores and what a
tick leaves alone; the canonical form of memory under every operation. -/

namespace Sys2Proof.Machine

@[simp] theorem replay_nil (b : Bus) : b.replay [] = b := rfl

@[simp] theorem replay_append (b : Bus) (ops ops' : List BusOp) : b.replay (ops ++ ops') = (b.replay ops).replay ops' :=
  List.foldl_append

theorem replay_cons (b : Bus) (op : BusOp) (ops : List BusOp) : b.replay (op :: ops) = (b.perform op).replay ops := rfl

/-! ## What every operation keeps -/

/-- A property that each smallest change of a bus keeps: every operation then keeps it. -/
structure Bus.Kept (P : Bus → Prop) : Prop where
  effect : ∀ (addr : Word) (val : Byte) (b : Bus) (e : BusEffect), P b → P (b.effect addr val e)
  event : ∀ (b : Bus) (e : BusEvent), P b → P (b.event e)
  inbox : ∀ (b : Bus) (rest : List (List BusEvent)), P b → P { b with inbox := rest }
  raise : ∀ (b : Bus) (it : IntSource), P b → P { b with pending := b.pending.put it true }
  clear : ∀ (b : Bus) (it : IntSource), P b → P { b with pending := b.pending.put it false }

/-- A property that a step of a fold keeps is kept by the fold. -/
theorem foldl_keeps {α β : Type} {P : β → Prop} {f : β → α → β} (h : ∀ b a, P b → P (f b a)) (l : List α) (b : β)
    (hb : P b) : P (l.foldl f b) := by
  induction l generalizing b with
  | nil => exact hb
  | cons a l ih => exact ih _ (h b a hb)

/-- The rules of a call keep what each effect keeps. -/
theorem react_keeps {P : Bus → Prop}
    (h : ∀ (addr : Word) (val : Byte) (b : Bus) (e : BusEffect), P b → P (b.effect addr val e))
    (rules : List BusRule) (addr : Word) (val : Byte) (b : Bus) (hb : P b) : P (b.react rules addr val) := by
  refine foldl_keeps (fun b r hb => ?_) _ _ hb
  unfold Bus.rule
  split
  · exact foldl_keeps (fun b e => h addr val b e) _ _ hb
  · exact hb

theorem receive_keeps {P : Bus → Prop} (hi : ∀ (b : Bus) (rest : List (List BusEvent)), P b → P { b with inbox := rest })
    (he : ∀ (b : Bus) (e : BusEvent), P b → P (b.event e)) (b : Bus) (hb : P b) : P b.receive := by
  unfold Bus.receive
  split
  · exact hb
  · exact foldl_keeps he _ _ (hi _ _ hb)

theorem raises_keeps {P : Bus → Prop}
    (h : ∀ (b : Bus) (it : IntSource), P b → P { b with pending := b.pending.put it true })
    (l : List (BusTerm × IntSource)) (b : Bus) (hb : P b) : P (l.foldl Bus.raiseIf b) := by
  refine foldl_keeps (fun b x hb => ?_) _ _ hb
  unfold Bus.raiseIf
  split
  · exact h _ _ hb
  · exact hb

theorem Bus.Kept.acknowledge {P : Bus → Prop} (k : Bus.Kept P) (b : Bus) (hb : P b) : P b.acknowledge := by
  unfold Bus.acknowledge
  split
  · exact hb
  · exact k.clear _ _ hb

theorem Bus.Kept.step {P : Bus → Prop} (k : Bus.Kept P) (b : Bus) (hb : P b) : P b.step :=
  raises_keeps k.raise _ _ (react_keeps k.effect _ _ _ _ (receive_keeps k.inbox k.event b hb))

/-- Every operation keeps what the smallest changes keep. -/
theorem Bus.Kept.perform {P : Bus → Prop} (k : Bus.Kept P) (b : Bus) (op : BusOp) (hb : P b) : P (b.perform op) := by
  cases op with
  | fetchByte a _ => exact react_keeps k.effect _ _ _ _ hb
  | storeByte a v => exact react_keeps k.effect _ _ _ _ hb
  | step => exact k.step b hb
  | nextInterrupt => exact hb
  | nextInterruptAck => exact k.acknowledge b hb

theorem Bus.Kept.replay {P : Bus → Prop} (k : Bus.Kept P) (b : Bus) (ops : List BusOp) (hb : P b) : P (b.replay ops) :=
  foldl_keeps k.perform _ _ hb

/-- The parameter BUS is kept (rule R8). -/
theorem kept_model (m : BusModel) : Bus.Kept fun b => b.model = m where
  effect _ _ _ e h := by cases e <;> exact h
  event _ e h := by cases e <;> exact h
  inbox _ _ h := h
  raise _ _ h := h
  clear _ _ h := h

@[simp] theorem model_replay (b : Bus) (ops : List BusOp) : (b.replay ops).model = b.model :=
  (kept_model b.model).replay b ops rfl

/-- The canonical form of memory is kept. -/
theorem kept_wf : Bus.Kept fun b => b.mem.wf = true where
  effect _ _ _ e h := by
    cases e <;> first | exact h | exact Memory.wf_write _ _ _ (Nat.mod_lt _ (by decide)) h
  event _ e h := by
    cases e <;> first | exact h | exact Memory.wf_write _ _ _ (Nat.mod_lt _ (by decide)) h
  inbox _ _ h := h
  raise _ _ h := h
  clear _ _ h := h

/-- Every bus operation keeps the canonical form of memory. -/
theorem wf_replay (ops : List BusOp) (b : Bus) (h : b.mem.wf = true) : (b.replay ops).mem.wf = true :=
  kept_wf.replay b ops h

/-! ## Pending conditions: raised by `step()`, cleared by the acknowledge alone (rule R205) -/

@[simp] theorem has_put (t : IntSet) (it x : IntSource) (v : Bool) :
    (t.put it v).has x = if x = it then v else t.has x := by
  cases it <;> cases x <;> rfl

theorem pending_react (rules : List BusRule) (addr : Word) (val : Byte) (b : Bus) :
    (b.react rules addr val).pending = b.pending :=
  react_keeps (P := fun c => c.pending = b.pending) (fun _ _ _ e h => by cases e <;> exact h) rules addr val b rfl

/-- A `step()` clears no condition. -/
theorem pending_step (b : Bus) (x : IntSource) (h : b.pending.has x = true) : b.step.pending.has x = true := by
  have hput : ∀ (c : Bus) (it : IntSource), c.pending.has x = true → (c.pending.put it true).has x = true := by
    intro c it hc
    simp [hc]
  refine raises_keeps (P := fun c => c.pending.has x = true) (fun c it hc => hput c it hc) _ _ ?_
  rw [pending_react]
  exact receive_keeps (P := fun c => c.pending.has x = true) (fun _ _ h => h)
    (fun c e hc => by cases e <;> first | exact hc | exact hput c _ hc) b h

/-! ## Plain RAM (rule R40) -/

theorem plain_iff (m : BusModel) :
    m.plain = true ↔ m.answer = .byte .addr ∧ m.onFetch = [] ∧ m.onStore = [⟨.lit 1, [.poke .addr .val]⟩] ∧ m.onStep = [] := by
  obtain ⟨a, f, s, t, r⟩ := m
  simp [BusModel.plain, BusModel.ram]

theorem plain_of_quiet {b : Bus} (h : b.quiet = true) : b.model.plain = true := by
  simp only [Bus.quiet, Bool.and_eq_true] at h
  exact h.1

@[simp] theorem plain_ram : BusModel.ram.plain = true := by decide

theorem fetchByte_plain (b : Bus) (x : Word) (h : b.model.plain = true) : b.fetchByte x = b.mem.read x.toNat := by
  simp [Bus.fetchByte, ((plain_iff _).mp h).1, BusTerm.eval, Nat.mod_eq_of_lt x.isLt]

theorem afterFetch_plain (b : Bus) (x : Word) (h : b.model.plain = true) : b.afterFetch x = b := by
  simp [Bus.afterFetch, ((plain_iff _).mp h).2.1, Bus.react]

theorem storeByte_plain (b : Bus) (a : Word) (v : Byte) (h : b.model.plain = true) :
    b.storeByte a v = { b with mem := b.mem.write a.toNat v } := by
  simp [Bus.storeByte, ((plain_iff _).mp h).2.2.1, Bus.react, Bus.rule, Bus.effect, BusTerm.eval, Bus.poke,
    Nat.mod_eq_of_lt a.isLt]

/-- A read after a store. -/
theorem fetchByte_storeByte (b : Bus) (a x : Word) (v : Byte) (h : b.model.plain = true) :
    (b.storeByte a v).fetchByte x = if x = a then v else b.fetchByte x := by
  rw [storeByte_plain b a v h, fetchByte_plain b x h, fetchByte_plain _ x (by exact h), Memory.read_write]
  simp only [BitVec.toNat_inj]

theorem fetchByte_acknowledge (b : Bus) (x : Word) (h : b.model.plain = true) :
    b.acknowledge.fetchByte x = b.fetchByte x := by
  unfold Bus.acknowledge
  split
  · rfl
  · rw [fetchByte_plain b x h]
    exact fetchByte_plain _ x h

/-! ## A quiet bus -/

theorem quiet_iff (b : Bus) :
    b.quiet = true ↔ b.model.plain = true ∧ ∀ es ∈ b.inbox, ∀ e ∈ es, e.isPoke = false := by
  simp [Bus.quiet]

theorem mem_event (b : Bus) (e : BusEvent) (h : e.isPoke = false) : (b.event e).mem = b.mem := by
  cases e <;> first | rfl | exact absurd h (by simp [BusEvent.isPoke])

theorem mem_events (es : List BusEvent) (b : Bus) (h : ∀ e ∈ es, e.isPoke = false) :
    (es.foldl Bus.event b).mem = b.mem := by
  induction es generalizing b with
  | nil => rfl
  | cons e es ih =>
    rw [List.foldl_cons, ih _ fun e he => h e (by simp [he]), mem_event _ _ (h e (by simp))]

theorem inbox_events (es : List BusEvent) (b : Bus) : (es.foldl Bus.event b).inbox = b.inbox :=
  foldl_keeps (P := fun c => c.inbox = b.inbox) (fun _ e h => by cases e <;> exact h) es b rfl

/-- On a quiet bus a tick leaves memory alone, and the bus stays quiet. -/
theorem quiet_step (b : Bus) (h : b.quiet = true) : b.step.mem = b.mem ∧ b.step.quiet = true := by
  obtain ⟨hp, hi⟩ := (quiet_iff b).mp h
  have hr : b.receive.mem = b.mem ∧ ∀ es ∈ b.receive.inbox, ∀ e ∈ es, e.isPoke = false := by
    unfold Bus.receive
    split
    · exact ⟨rfl, hi⟩
    · rename_i es rest hb
      rw [hb] at hi
      exact ⟨mem_events es _ (hi es (by simp)), by rw [inbox_events]; exact fun fs hf => hi fs (by simp [hf])⟩
  have hs : b.step.mem = b.mem ∧ b.step.inbox = b.receive.inbox := by
    unfold Bus.step
    rw [((plain_iff _).mp hp).2.2.2]
    exact raises_keeps (P := fun c => c.mem = b.mem ∧ c.inbox = b.receive.inbox) (fun _ _ h => h) _ _ ⟨hr.1, rfl⟩
  refine ⟨hs.1, (quiet_iff _).mpr ⟨?_, by rw [hs.2]; exact hr.2⟩⟩
  rw [(kept_model b.model).step b rfl]
  exact hp

/-- Whether an operation of the block stores to the address `x`. -/
def BusOp.storesTo (x : Word) (op : BusOp) : Bool :=
  match op with
  | .storeByte a _ => a == x
  | _ => false

theorem quiet_perform (b : Bus) (op : BusOp) (h : b.quiet = true) : (b.perform op).quiet = true := by
  cases op with
  | fetchByte a _ => rw [Bus.perform, afterFetch_plain _ _ (plain_of_quiet h)]; exact h
  | storeByte a v => rw [Bus.perform, storeByte_plain _ _ _ (plain_of_quiet h)]; exact h
  | step => exact (quiet_step b h).2
  | nextInterrupt => exact h
  | nextInterruptAck => simp only [Bus.perform, Bus.acknowledge]; split <;> exact h

theorem quiet_replay (ops : List BusOp) (b : Bus) (h : b.quiet = true) : (b.replay ops).quiet = true :=
  foldl_keeps (P := fun c => c.quiet = true) quiet_perform ops b h

theorem fetchByte_perform (b : Bus) (op : BusOp) (x : Word) (h : b.quiet = true) (hs : op.storesTo x = false) :
    (b.perform op).fetchByte x = b.fetchByte x := by
  have hp := plain_of_quiet h
  cases op with
  | storeByte a v =>
    have : x ≠ a := fun hx => by simp [BusOp.storesTo, hx] at hs
    exact (fetchByte_storeByte b a x v hp).trans (if_neg this)
  | step =>
    have hq := quiet_step b h
    show b.step.fetchByte x = _
    rw [fetchByte_plain b x hp, fetchByte_plain _ x (plain_of_quiet hq.2), hq.1]
  | fetchByte a _ => rw [Bus.perform, afterFetch_plain _ _ hp]
  | nextInterrupt => rfl
  | nextInterruptAck => exact fetchByte_acknowledge b x hp

/-- On a quiet bus an address keeps its byte under operations none of which stores to it. -/
theorem fetchByte_replay (ops : List BusOp) (b : Bus) (x : Word) (h : b.quiet = true)
    (hs : ∀ op ∈ ops, op.storesTo x = false) : (b.replay ops).fetchByte x = b.fetchByte x := by
  induction ops generalizing b with
  | nil => rfl
  | cons op ops ih =>
    rw [show b.replay (op :: ops) = (b.perform op).replay ops from rfl,
      ih _ (quiet_perform b op h) fun o ho => hs o (by simp [ho]), fetchByte_perform b op x h (hs op (by simp))]

end Sys2Proof.Machine
end

