-- ==== Sys2Proof/Laws/Decode.lean ====
section
/-! SUPPORT. What the decoder gives for an opcode byte, with the encoding of what it gives. -/

namespace Sys2Proof

/-- The escape is the only instruction that is not a whole one. -/
theorem Instr.eq_prefixCb_of_not_wellFormed (i : Instr) (h : i.wellFormed = false) : i = .prefixCb := by
  cases i <;> first | rfl | exact nomatch h

/-- A property of the 256 bytes, from its 256 instances. -/
theorem forall_byte {P : Byte → Prop} (h : ∀ n, n < 256 → P (BitVec.ofNat 8 n)) (b : Byte) : P b := by
  have := h b.toNat b.isLt
  rwa [BitVec.ofNat_toNat, BitVec.setWidth_eq] at this

/-- Every row of the extended table is a whole instruction and stands at its byte (rules R67, R69). -/
theorem encode_decodeCb (cbop : Byte) : encode (decodeCb cbop) = [0xCB, cbop] := by
  refine forall_byte (P := fun c => encode (decodeCb c) = [0xCB, c]) (fun n hn => ?_) cbop
  interval_cases n <;> exact rfl

theorem wellFormed_decodeCb (cbop : Byte) : (decodeCb cbop).wellFormed = true := by
  refine forall_byte (P := fun c => (decodeCb c).wellFormed = true) (fun n hn => ?_) cbop
  interval_cases n <;> exact rfl

/-- What an opcode byte decodes to, and that its encoding begins with that byte (rules R58, R66, R68). -/
inductive FormOf (op : Byte) : Form → Prop where
  | plain (i : Instr) (he : encode i = [op]) (hw : i.wellFormed = true) : FormOf op (.plain i)
  | imm8 (f : Byte → Instr) (he : ∀ n, encode (f n) = [op, n]) (hw : ∀ n, (f n).wellFormed = true) : FormOf op (.imm8 f)
  | imm16 (f : Word → Instr) (he : ∀ w, encode (f w) = [op, loByte w, hiByte w]) (hw : ∀ w, (f w).wellFormed = true) :
    FormOf op (.imm16 f)
  | escape (he : op = 0xCB) : FormOf op .escape

theorem FormOf.ofPlain {op : Byte} {i : Instr} (h : decodeOp op = .plain i) (he : encode i = [op])
    (hw : i.wellFormed = true) : FormOf op (decodeOp op) :=
  h ▸ .plain i he hw

theorem FormOf.ofImm8 {op : Byte} {f : Byte → Instr} (h : decodeOp op = .imm8 f) (he : ∀ n, encode (f n) = [op, n])
    (hw : ∀ n, (f n).wellFormed = true) : FormOf op (decodeOp op) :=
  h ▸ .imm8 f he hw

theorem FormOf.ofImm16 {op : Byte} {f : Word → Instr} (h : decodeOp op = .imm16 f)
    (he : ∀ w, encode (f w) = [op, loByte w, hiByte w]) (hw : ∀ w, (f w).wellFormed = true) : FormOf op (decodeOp op) :=
  h ▸ .imm16 f he hw

theorem FormOf.ofEscape {op : Byte} (h : decodeOp op = .escape) (he : op = 0xCB) : FormOf op (decodeOp op) :=
  h ▸ .escape he

/-- Case analysis on what an opcode byte decodes to. -/
theorem decodeOp_form (op : Byte) : FormOf op (decodeOp op) := by
  refine forall_byte (P := fun op => FormOf op (decodeOp op)) (fun n hn => ?_) op
  interval_cases n <;>
    first
      | exact .ofPlain rfl rfl rfl
      | exact .ofImm8 rfl (fun _ => rfl) fun _ => rfl
      | exact .ofImm16 rfl (fun _ => rfl) fun _ => rfl
      | exact .ofEscape rfl rfl

end Sys2Proof
end

