-- ==== Sys2Proof/Laws/Fields.lean ====
section
/-! SUPPORT. What the shared updates of the instruction families leave unchanged, one lemma per
field. -/

namespace Sys2Proof.Machine

@[simp] theorem aluByte_sp (op : AluOp) (b : Byte) (s : State) : (aluByte op b s).sp = s.sp := rfl
@[simp] theorem aluByte_pc (op : AluOp) (b : Byte) (s : State) : (aluByte op b s).pc = s.pc := rfl
@[simp] theorem aluByte_ime (op : AluOp) (b : Byte) (s : State) : (aluByte op b s).ime = s.ime := rfl
@[simp] theorem aluByte_pend (op : AluOp) (b : Byte) (s : State) : (aluByte op b s).pend = s.pend := rfl
@[simp] theorem aluByte_halted (op : AluOp) (b : Byte) (s : State) : (aluByte op b s).halted = s.halted := rfl
@[simp] theorem aluByte_haltBug (op : AluOp) (b : Byte) (s : State) : (aluByte op b s).haltBug = s.haltBug := rfl
@[simp] theorem aluByte_fatal (op : AluOp) (b : Byte) (s : State) : (aluByte op b s).fatal = s.fatal := rfl
@[simp] theorem aluByte_cyc (op : AluOp) (b : Byte) (s : State) : (aluByte op b s).cyc = s.cyc := rfl
@[simp] theorem aluByte_opaddr (op : AluOp) (b : Byte) (s : State) : (aluByte op b s).opaddr = s.opaddr := rfl
@[simp] theorem aluByte_cfg (op : AluOp) (b : Byte) (s : State) : (aluByte op b s).cfg = s.cfg := rfl
@[simp] theorem aluByte_bus (op : AluOp) (b : Byte) (s : State) : (aluByte op b s).bus = s.bus := rfl
@[simp] theorem aluByte_trace (op : AluOp) (b : Byte) (s : State) : (aluByte op b s).trace = s.trace := rfl

@[simp] theorem stepReg_sp (f : Byte → Flags → Byte × Flags) (r : Reg8) (s : State) : (stepReg f r s).sp = s.sp := rfl
@[simp] theorem stepReg_pc (f : Byte → Flags → Byte × Flags) (r : Reg8) (s : State) : (stepReg f r s).pc = s.pc := rfl
@[simp] theorem stepReg_ime (f : Byte → Flags → Byte × Flags) (r : Reg8) (s : State) : (stepReg f r s).ime = s.ime :=
  rfl
@[simp] theorem stepReg_pend (f : Byte → Flags → Byte × Flags) (r : Reg8) (s : State) : (stepReg f r s).pend = s.pend :=
  rfl
@[simp] theorem stepReg_halted (f : Byte → Flags → Byte × Flags) (r : Reg8) (s : State) : (stepReg f r s).halted = s.halted :=
  rfl
@[simp] theorem stepReg_haltBug (f : Byte → Flags → Byte × Flags) (r : Reg8) (s : State) : (stepReg f r s).haltBug = s.haltBug :=
  rfl
@[simp] theorem stepReg_fatal (f : Byte → Flags → Byte × Flags) (r : Reg8) (s : State) : (stepReg f r s).fatal = s.fatal :=
  rfl
@[simp] theorem stepReg_cyc (f : Byte → Flags → Byte × Flags) (r : Reg8) (s : State) : (stepReg f r s).cyc = s.cyc :=
  rfl
@[simp] theorem stepReg_opaddr (f : Byte → Flags → Byte × Flags) (r : Reg8) (s : State) : (stepReg f r s).opaddr = s.opaddr :=
  rfl
@[simp] theorem stepReg_cfg (f : Byte → Flags → Byte × Flags) (r : Reg8) (s : State) : (stepReg f r s).cfg = s.cfg :=
  rfl
@[simp] theorem stepReg_bus (f : Byte → Flags → Byte × Flags) (r : Reg8) (s : State) : (stepReg f r s).bus = s.bus :=
  rfl
@[simp] theorem stepReg_trace (f : Byte → Flags → Byte × Flags) (r : Reg8) (s : State) : (stepReg f r s).trace = s.trace :=
  rfl

@[simp] theorem onA_sp (f : Byte → Flags → Byte × Flags) (s : State) : (onA f s).sp = s.sp := rfl
@[simp] theorem onA_pc (f : Byte → Flags → Byte × Flags) (s : State) : (onA f s).pc = s.pc := rfl
@[simp] theorem onA_ime (f : Byte → Flags → Byte × Flags) (s : State) : (onA f s).ime = s.ime := rfl
@[simp] theorem onA_pend (f : Byte → Flags → Byte × Flags) (s : State) : (onA f s).pend = s.pend := rfl
@[simp] theorem onA_halted (f : Byte → Flags → Byte × Flags) (s : State) : (onA f s).halted = s.halted := rfl
@[simp] theorem onA_haltBug (f : Byte → Flags → Byte × Flags) (s : State) : (onA f s).haltBug = s.haltBug := rfl
@[simp] theorem onA_fatal (f : Byte → Flags → Byte × Flags) (s : State) : (onA f s).fatal = s.fatal := rfl
@[simp] theorem onA_cyc (f : Byte → Flags → Byte × Flags) (s : State) : (onA f s).cyc = s.cyc := rfl
@[simp] theorem onA_opaddr (f : Byte → Flags → Byte × Flags) (s : State) : (onA f s).opaddr = s.opaddr := rfl
@[simp] theorem onA_cfg (f : Byte → Flags → Byte × Flags) (s : State) : (onA f s).cfg = s.cfg := rfl
@[simp] theorem onA_bus (f : Byte → Flags → Byte × Flags) (s : State) : (onA f s).bus = s.bus := rfl
@[simp] theorem onA_trace (f : Byte → Flags → Byte × Flags) (s : State) : (onA f s).trace = s.trace := rfl

@[simp] theorem cpl_sp (s : State) : (cpl s).sp = s.sp := rfl
@[simp] theorem cpl_pc (s : State) : (cpl s).pc = s.pc := rfl
@[simp] theorem cpl_ime (s : State) : (cpl s).ime = s.ime := rfl
@[simp] theorem cpl_pend (s : State) : (cpl s).pend = s.pend := rfl
@[simp] theorem cpl_halted (s : State) : (cpl s).halted = s.halted := rfl
@[simp] theorem cpl_haltBug (s : State) : (cpl s).haltBug = s.haltBug := rfl
@[simp] theorem cpl_fatal (s : State) : (cpl s).fatal = s.fatal := rfl
@[simp] theorem cpl_cyc (s : State) : (cpl s).cyc = s.cyc := rfl
@[simp] theorem cpl_opaddr (s : State) : (cpl s).opaddr = s.opaddr := rfl
@[simp] theorem cpl_cfg (s : State) : (cpl s).cfg = s.cfg := rfl
@[simp] theorem cpl_bus (s : State) : (cpl s).bus = s.bus := rfl
@[simp] theorem cpl_trace (s : State) : (cpl s).trace = s.trace := rfl

@[simp] theorem scf_regs (s : State) : (scf s).regs = s.regs := rfl
@[simp] theorem scf_sp (s : State) : (scf s).sp = s.sp := rfl
@[simp] theorem scf_pc (s : State) : (scf s).pc = s.pc := rfl
@[simp] theorem scf_ime (s : State) : (scf s).ime = s.ime := rfl
@[simp] theorem scf_pend (s : State) : (scf s).pend = s.pend := rfl
@[simp] theorem scf_halted (s : State) : (scf s).halted = s.halted := rfl
@[simp] theorem scf_haltBug (s : State) : (scf s).haltBug = s.haltBug := rfl
@[simp] theorem scf_fatal (s : State) : (scf s).fatal = s.fatal := rfl
@[simp] theorem scf_cyc (s : State) : (scf s).cyc = s.cyc := rfl
@[simp] theorem scf_opaddr (s : State) : (scf s).opaddr = s.opaddr := rfl
@[simp] theorem scf_cfg (s : State) : (scf s).cfg = s.cfg := rfl
@[simp] theorem scf_bus (s : State) : (scf s).bus = s.bus := rfl
@[simp] theorem scf_trace (s : State) : (scf s).trace = s.trace := rfl

@[simp] theorem ccf_regs (s : State) : (ccf s).regs = s.regs := rfl
@[simp] theorem ccf_sp (s : State) : (ccf s).sp = s.sp := rfl
@[simp] theorem ccf_pc (s : State) : (ccf s).pc = s.pc := rfl
@[simp] theorem ccf_ime (s : State) : (ccf s).ime = s.ime := rfl
@[simp] theorem ccf_pend (s : State) : (ccf s).pend = s.pend := rfl
@[simp] theorem ccf_halted (s : State) : (ccf s).halted = s.halted := rfl
@[simp] theorem ccf_haltBug (s : State) : (ccf s).haltBug = s.haltBug := rfl
@[simp] theorem ccf_fatal (s : State) : (ccf s).fatal = s.fatal := rfl
@[simp] theorem ccf_cyc (s : State) : (ccf s).cyc = s.cyc := rfl
@[simp] theorem ccf_opaddr (s : State) : (ccf s).opaddr = s.opaddr := rfl
@[simp] theorem ccf_cfg (s : State) : (ccf s).cfg = s.cfg := rfl
@[simp] theorem ccf_bus (s : State) : (ccf s).bus = s.bus := rfl
@[simp] theorem ccf_trace (s : State) : (ccf s).trace = s.trace := rfl

@[simp] theorem rotReg_sp (op : RotOp) (r : Reg8) (s : State) : (rotReg op r s).sp = s.sp := rfl
@[simp] theorem rotReg_pc (op : RotOp) (r : Reg8) (s : State) : (rotReg op r s).pc = s.pc := rfl
@[simp] theorem rotReg_ime (op : RotOp) (r : Reg8) (s : State) : (rotReg op r s).ime = s.ime := rfl
@[simp] theorem rotReg_pend (op : RotOp) (r : Reg8) (s : State) : (rotReg op r s).pend = s.pend := rfl
@[simp] theorem rotReg_halted (op : RotOp) (r : Reg8) (s : State) : (rotReg op r s).halted = s.halted := rfl
@[simp] theorem rotReg_haltBug (op : RotOp) (r : Reg8) (s : State) : (rotReg op r s).haltBug = s.haltBug := rfl
@[simp] theorem rotReg_fatal (op : RotOp) (r : Reg8) (s : State) : (rotReg op r s).fatal = s.fatal := rfl
@[simp] theorem rotReg_cyc (op : RotOp) (r : Reg8) (s : State) : (rotReg op r s).cyc = s.cyc := rfl
@[simp] theorem rotReg_opaddr (op : RotOp) (r : Reg8) (s : State) : (rotReg op r s).opaddr = s.opaddr := rfl
@[simp] theorem rotReg_cfg (op : RotOp) (r : Reg8) (s : State) : (rotReg op r s).cfg = s.cfg := rfl
@[simp] theorem rotReg_bus (op : RotOp) (r : Reg8) (s : State) : (rotReg op r s).bus = s.bus := rfl
@[simp] theorem rotReg_trace (op : RotOp) (r : Reg8) (s : State) : (rotReg op r s).trace = s.trace := rfl

@[simp] theorem bitReg_regs (b : Fin 8) (r : Reg8) (s : State) : (bitReg b r s).regs = s.regs := rfl
@[simp] theorem bitReg_sp (b : Fin 8) (r : Reg8) (s : State) : (bitReg b r s).sp = s.sp := rfl
@[simp] theorem bitReg_pc (b : Fin 8) (r : Reg8) (s : State) : (bitReg b r s).pc = s.pc := rfl
@[simp] theorem bitReg_ime (b : Fin 8) (r : Reg8) (s : State) : (bitReg b r s).ime = s.ime := rfl
@[simp] theorem bitReg_pend (b : Fin 8) (r : Reg8) (s : State) : (bitReg b r s).pend = s.pend := rfl
@[simp] theorem bitReg_halted (b : Fin 8) (r : Reg8) (s : State) : (bitReg b r s).halted = s.halted := rfl
@[simp] theorem bitReg_haltBug (b : Fin 8) (r : Reg8) (s : State) : (bitReg b r s).haltBug = s.haltBug := rfl
@[simp] theorem bitReg_fatal (b : Fin 8) (r : Reg8) (s : State) : (bitReg b r s).fatal = s.fatal := rfl
@[simp] theorem bitReg_cyc (b : Fin 8) (r : Reg8) (s : State) : (bitReg b r s).cyc = s.cyc := rfl
@[simp] theorem bitReg_opaddr (b : Fin 8) (r : Reg8) (s : State) : (bitReg b r s).opaddr = s.opaddr := rfl
@[simp] theorem bitReg_cfg (b : Fin 8) (r : Reg8) (s : State) : (bitReg b r s).cfg = s.cfg := rfl
@[simp] theorem bitReg_bus (b : Fin 8) (r : Reg8) (s : State) : (bitReg b r s).bus = s.bus := rfl
@[simp] theorem bitReg_trace (b : Fin 8) (r : Reg8) (s : State) : (bitReg b r s).trace = s.trace := rfl

end Sys2Proof.Machine
end

