-- ==== Sys2Proof/Laws/Ops.lean ====
section
/-! SUPPORT. One closed form per shared operation: the state it gives is a plain update of the state it is given, after
the bus operations the rule lists (`State.onBus`). Provers cite these and need not unfold the operations. -/

namespace Sys2Proof.Machine

/-! ## Sequences of bus operations -/

@[simp] theorem ticksIn_nil : ticksIn [] = 0 := rfl

@[simp] theorem ticksIn_append (a b : List BusOp) : ticksIn (a ++ b) = ticksIn a + ticksIn b := List.countP_append

@[simp] theorem ticksIn_tickOps (k : Nat) : ticksIn (tickOps k) = k := by
  simp [ticksIn, tickOps, List.countP_replicate]

@[simp] theorem ticksIn_readOps (a : Word) (v : Byte) : ticksIn (readOps a v) = 4 := by
  simp [readOps, ticksIn, tickOps]

@[simp] theorem ticksIn_writeOps (a : Word) (v : Byte) : ticksIn (writeOps a v) = 4 := by
  simp [writeOps, ticksIn, tickOps]

@[simp] theorem ticksIn_fetchOps (b : Bus) (a : Word) (n : Nat) : ticksIn (fetchOps b a n) = 4 * n := by
  induction n generalizing b a with
  | zero => rfl
  | succ n ih => simp [fetchOps, ih]; omega

@[simp] theorem ticksIn_nextInterrupt (it : Option IntSource) : ticksIn [.nextInterrupt it] = 0 := by
  simp [ticksIn]

@[simp] theorem ticksIn_nextInterruptAck (it : Option IntSource) : ticksIn [.nextInterruptAck it] = 0 := by
  simp [ticksIn]

@[simp] theorem ticksIn_cons_nextInterruptAck (it : Option IntSource) (ops : List BusOp) :
    ticksIn (.nextInterruptAck it :: ops) = ticksIn ops := by
  simp [ticksIn]

@[simp] theorem onBus_nil (s : State) : s.onBus [] = s := by
  simp [State.onBus]

@[simp] theorem onBus_onBus (s : State) (a b : List BusOp) : (s.onBus a).onBus b = s.onBus (a ++ b) := by
  simp [State.onBus, Nat.add_assoc, List.append_assoc]

theorem tickOps_add (j k : Nat) : tickOps j ++ tickOps k = tickOps (j + k) := List.replicate_append_replicate

/-! ## Reads after a sequence of bus operations, on a quiet bus -/

theorem fetchByte_replay_tickOps (b : Bus) (k : Nat) (x : Word) (h : b.quiet = true) :
    (b.replay (tickOps k)).fetchByte x = b.fetchByte x := by
  refine fetchByte_replay _ _ _ h fun op hop => ?_
  obtain rfl := (List.mem_replicate.mp hop).2
  rfl

theorem fetchByte_replay_readOps (b : Bus) (a x : Word) (v : Byte) (h : b.quiet = true) :
    (b.replay (readOps a v)).fetchByte x = b.fetchByte x := by
  have he : b.perform (.fetchByte a v) = b := afterFetch_plain b a (plain_of_quiet h)
  rw [readOps, replay_cons, he]
  exact fetchByte_replay_tickOps b 4 x h

theorem fetchByte_replay_writeOps (b : Bus) (a x : Word) (v : Byte) (h : b.quiet = true) :
    (b.replay (writeOps a v)).fetchByte x = if x = a then v else b.fetchByte x :=
  (fetchByte_replay_tickOps (b.storeByte a v) 4 x (quiet_perform b (.storeByte a v) h)).trans
    (fetchByte_storeByte b a x v (plain_of_quiet h))

/-! ## What an update and `onBus` do to each other -/

@[simp] theorem setReg_onBus (s : State) (ops : List BusOp) (r : Reg8) (v : Byte) :
    (s.onBus ops).setReg r v = (s.setReg r v).onBus ops := rfl

@[simp] theorem setPair_onBus (s : State) (ops : List BusOp) (p : Pair) (v : Word) :
    (s.onBus ops).setPair p v = (s.setPair p v).onBus ops := by cases p <;> rfl

@[simp] theorem setStackPair_onBus (s : State) (ops : List BusOp) (q : StackPair) (v : Word) :
    (s.onBus ops).setStackPair q v = (s.setStackPair q v).onBus ops := by cases q <;> rfl

@[simp] theorem reg_onBus (s : State) (ops : List BusOp) (r : Reg8) : (s.onBus ops).reg r = s.reg r := rfl

@[simp] theorem pair_onBus (s : State) (ops : List BusOp) (p : Pair) : (s.onBus ops).pair p = s.pair p := rfl

@[simp] theorem stackPair_onBus (s : State) (ops : List BusOp) (q : StackPair) :
    (s.onBus ops).stackPair q = s.stackPair q := rfl

@[simp] theorem hl_onBus (s : State) (ops : List BusOp) : (s.onBus ops).hl = s.hl := rfl

@[simp] theorem cond_onBus (s : State) (ops : List BusOp) (cc : Cond) : (s.onBus ops).cond cc = s.cond cc := rfl

/-! ## Time -/

theorem tick_eq (s : State) : tick s = s.onBus [.step] := rfl

@[simp] theorem ticks_eq (k : Nat) (s : State) : ticks k s = s.onBus (tickOps k) := by
  induction k generalizing s with
  | zero => simp [ticks, tickOps]
  | succ k ih => simp [ticks, ih, tick_eq, tickOps, List.replicate_succ]

@[simp] theorem mCycle_eq (s : State) : mCycle s = s.onBus (tickOps 4) := ticks_eq 4 s

@[simp] theorem internal_eq (s : State) : internal s = s.onBus (tickOps 4) := mCycle_eq s

@[simp] theorem internals_eq (k : Nat) (s : State) : internals k s = s.onBus (tickOps (4 * k)) := by
  induction k generalizing s with
  | zero => simp [internals, tickOps]
  | succ k ih =>
    rw [internals, ih, internal_eq, onBus_onBus, tickOps_add]
    congr 2
    omega

theorem record_onBus (s : State) (op : BusOp) (h : op ≠ .step) (hb : ∀ b : Bus, b.perform op = b) :
    s.record op = s.onBus [op] := by
  have hop : (op == BusOp.step) = false := by simpa using h
  simp [State.record, State.onBus, ticksIn, hop, replay_cons, hb]

/-! ## Accesses -/

@[simp] theorem read8_fst (a : Word) (s : State) : (read8 a s).1 = s.bus.fetchByte a := rfl

@[simp] theorem read8_snd (a : Word) (s : State) : (read8 a s).2 = s.onBus (readOps a (s.bus.fetchByte a)) := by
  rw [show readOps a (s.bus.fetchByte a) = [.fetchByte a (s.bus.fetchByte a)] ++ tickOps 4 from rfl, ← onBus_onBus,
    ← mCycle_eq]
  rfl

@[simp] theorem write8_eq (a : Word) (v : Byte) (s : State) : write8 a v s = s.onBus (writeOps a v) := by
  rw [show writeOps a v = [.storeByte a v] ++ tickOps 4 from rfl, ← onBus_onBus, ← mCycle_eq]
  rfl

@[simp] theorem peekInterrupt_fst (s : State) : (peekInterrupt s).1 = s.bus.nextInterrupt := rfl

@[simp] theorem peekInterrupt_snd (s : State) : (peekInterrupt s).2 = s.onBus [.nextInterrupt s.bus.nextInterrupt] :=
  record_onBus s _ (by simp) fun _ => rfl

@[simp] theorem ackInterrupt_fst (s : State) : (ackInterrupt s).1 = s.bus.nextInterrupt := rfl

@[simp] theorem ackInterrupt_snd (s : State) :
    (ackInterrupt s).2 = s.onBus [.nextInterruptAck s.bus.nextInterrupt] := rfl

/-! ## Fetches -/

@[simp] theorem fetch8_fst (s : State) : (fetch8 s).1 = s.bus.fetchByte s.pc := rfl

@[simp] theorem fetch8_snd (s : State) :
    (fetch8 s).2 = State.onBus (readOps s.pc (s.bus.fetchByte s.pc)) { s with pc := s.pc + 1 } := by
  simp [fetch8, State.onBus]

@[simp] theorem fetchOpcode_fst (s : State) : (fetchOpcode s).1 = s.bus.fetchByte s.pc := rfl

theorem fetchOpcode_snd (s : State) (h : s.haltBug = false) :
    (fetchOpcode s).2 =
      State.onBus (readOps s.pc (s.bus.fetchByte s.pc)) { s with pc := s.pc + 1, opaddr := s.pc } := by
  simp [fetchOpcode, State.onBus, h]

theorem fetchOpcode_snd_haltBug (s : State) (h : s.haltBug = true) :
    (fetchOpcode s).2 =
      State.onBus (readOps s.pc (s.bus.fetchByte s.pc)) { s with haltBug := false, opaddr := s.pc } := by
  simp [fetchOpcode, State.onBus, h]

/-! ## The stack -/

@[simp] theorem push16_eq (v : Word) (s : State) :
    push16 v s = State.onBus (writeOps (s.sp - 1) (hiByte v) ++ writeOps (s.sp - 2) (loByte v))
      { s with sp := s.sp - 2 } := by
  have h : s.sp - 1#16 - 1#16 = s.sp - 2#16 := by rw [BitVec.sub_sub]; rfl
  simp [push16, State.onBus, h, Nat.add_assoc]

@[simp] theorem pop16_fst (s : State) :
    (pop16 s).1 =
      joinBytes ((s.bus.replay (readOps s.sp (s.bus.fetchByte s.sp))).fetchByte (s.sp + 1)) (s.bus.fetchByte s.sp) := by
  simp [pop16]

@[simp] theorem pop16_snd (s : State) :
    (pop16 s).2 =
      State.onBus
        (readOps s.sp (s.bus.fetchByte s.sp) ++
          readOps (s.sp + 1) ((s.bus.replay (readOps s.sp (s.bus.fetchByte s.sp))).fetchByte (s.sp + 1)))
        { s with sp := s.sp + 2 } := by
  have h : s.sp + 1#16 + 1#16 = s.sp + 2#16 := by rw [BitVec.add_assoc]; rfl
  simp [pop16, State.onBus, h, Nat.add_assoc]

/-! ## Exceptions and returns -/

@[simp] theorem interruptEntry_eq (it : IntSource) (s : State) :
    interruptEntry it s =
      State.onBus
        (writeOps (s.sp - 1) (hiByte s.pc) ++ writeOps (s.sp - 2) (loByte s.pc) ++ tickOps (4 * s.cfg.intExtraDelayM))
        { s with ime := false, pend := false, halted := false, sp := s.sp - 2, pc := it.vector } := by
  simp [interruptEntry, internals_eq, State.onBus]
  omega

@[simp] theorem returnFrom_eq (s : State) :
    returnFrom s =
      State.onBus
        (readOps s.sp (s.bus.fetchByte s.sp) ++
          readOps (s.sp + 1) ((s.bus.replay (readOps s.sp (s.bus.fetchByte s.sp))).fetchByte (s.sp + 1)) ++ tickOps 4)
        { s with sp := s.sp + 2, pc := (pop16 s).1 } := by
  simp [returnFrom, internal_eq, State.onBus, Nat.add_assoc]

end Sys2Proof.Machine
end

