-- ==== Sys2Proof/Laws/Effects.lean ====
section
/-! SUPPORT. One closed form per shared operation of the instruction families: the state it gives is a plain update of the
state it is given, after the bus operations it makes (`State.onBus`). -/

namespace Sys2Proof.Machine

/-! ## Loads and the stack -/

@[simp] theorem ldRegReg_eq (dst src : Reg8) (s : State) : ldRegReg dst src s = s.setReg dst (s.reg src) := rfl

@[simp] theorem ldRegByte_eq (r : Reg8) (n : Byte) (s : State) : ldRegByte r n s = s.setReg r n := rfl

@[simp] theorem ldRegMem_eq (r : Reg8) (a : Word) (s : State) :
    ldRegMem r a s = (s.setReg r (s.bus.fetchByte a)).onBus (readOps a (s.bus.fetchByte a)) := by
  simp [ldRegMem]

@[simp] theorem moveHl_eq (d a : Word) (s : State) : moveHl d a s = s.setPair .hl (a + d) := rfl

@[simp] theorem push_eq (q : StackPair) (s : State) :
    push q s =
      State.onBus
        (tickOps 4 ++ writeOps (s.sp - 1) (hiByte (s.stackPair q)) ++ writeOps (s.sp - 2) (loByte (s.stackPair q)))
        { s with sp := s.sp - 2 } := by
  apply State.ext <;> simp [push, internal_eq, Nat.add_assoc]

@[simp] theorem pop_eq (q : StackPair) (s : State) :
    pop q s =
      State.onBus
        (readOps s.sp (s.bus.fetchByte s.sp) ++
          readOps (s.sp + 1) ((s.bus.replay (readOps s.sp (s.bus.fetchByte s.sp))).fetchByte (s.sp + 1)))
        (State.setStackPair { s with sp := s.sp + 2 } q (pop16 s).1) := by
  rw [pop, pop16_snd, setStackPair_onBus]

@[simp] theorem ldHlSpPlus_eq (u : Byte) (s : State) :
    ldHlSpPlus u s =
      State.onBus (tickOps 4) (State.setPair { s with flags := (spPlusOp s.sp u).2 } .hl (spPlusOp s.sp u).1) := by
  simp [ldHlSpPlus, internal_eq]

/-! ## Arithmetic -/

@[simp] theorem aluReg_eq (op : AluOp) (r : Reg8) (s : State) : aluReg op r s = aluByte op (s.reg r) s := rfl

@[simp] theorem aluMem_eq (op : AluOp) (s : State) :
    aluMem op s =
      (aluByte op (s.bus.fetchByte s.hl) s).onBus (readOps s.hl (s.bus.fetchByte s.hl)) := by
  simp [aluMem]
  rfl

@[simp] theorem stepMem_eq (f : Byte → Flags → Byte × Flags) (s : State) :
    stepMem f s =
      State.onBus
        (readOps s.hl (s.bus.fetchByte s.hl) ++ writeOps s.hl (f (s.bus.fetchByte s.hl) s.flags).1)
        { s with flags := (f (s.bus.fetchByte s.hl) s.flags).2 } := by
  apply State.ext <;> simp [stepMem]

@[simp] theorem addHl_eq (p : Pair) (s : State) :
    addHl p s =
      State.onBus (tickOps 4)
        (State.setPair { s with flags := (add16Op s.hl (s.pair p) s.flags).2 } .hl
          (add16Op s.hl (s.pair p) s.flags).1) := by
  simp [addHl, internal_eq]

@[simp] theorem stepPair_eq (d : Word) (p : Pair) (s : State) :
    stepPair d p s = (s.setPair p (s.pair p + d)).onBus (tickOps 4) := by
  simp [stepPair, internal_eq]

@[simp] theorem addSp_eq (u : Byte) (s : State) :
    addSp u s =
      State.onBus (tickOps 8) { s with sp := (spPlusOp s.sp u).1, flags := (spPlusOp s.sp u).2 } := by
  simp [addSp, internals_eq]
  rfl

/-! ## Control transfer -/

@[simp] theorem jump_eq (target : Word) (s : State) : jump target s = State.onBus (tickOps 4) { s with pc := target } := by
  simp [jump, internal_eq]
  rfl

@[simp] theorem call_eq (target : Word) (s : State) :
    call target s =
      State.onBus (tickOps 4 ++ writeOps (s.sp - 1) (hiByte s.pc) ++ writeOps (s.sp - 2) (loByte s.pc))
        { s with sp := s.sp - 2, pc := target } := by
  apply State.ext <;> simp [call, internal_eq, Nat.add_assoc]

theorem returnIf_taken (cc : Cond) (s : State) (h : s.cond cc = true) :
    returnIf cc s = returnFrom (s.onBus (tickOps 4)) := by
  simp [returnIf, h, internal_eq]

theorem returnIf_notTaken (cc : Cond) (s : State) (h : s.cond cc = false) : returnIf cc s = s.onBus (tickOps 4) := by
  simp [returnIf, h, internal_eq]

/-! ## System instructions -/

theorem halt_halts (s : State) (h : s.ime = true ∨ s.cfg.haltBugEnabled = false) : halt s = { s with halted := true } := by
  rcases h with h | h <;> simp [halt, h]

theorem halt_quiet (s : State) (hb : s.cfg.haltBugEnabled = true) (hi : s.ime = false)
    (hn : s.bus.nextInterrupt = none) :
    halt s = State.onBus [.nextInterrupt none] { s with halted := true } := by
  simp [halt, hb, hi, hn]
  rfl

theorem halt_bug (s : State) (it : IntSource) (hb : s.cfg.haltBugEnabled = true) (hi : s.ime = false)
    (hn : s.bus.nextInterrupt = some it) :
    halt s = State.onBus [.nextInterrupt (some it)] { s with haltBug := true } := by
  simp [halt, hb, hi, hn]
  rfl

/-! ## The extended table -/

@[simp] theorem rotMem_eq (op : RotOp) (s : State) :
    rotMem op s =
      State.onBus
        (readOps s.hl (s.bus.fetchByte s.hl) ++ writeOps s.hl (rotOp op (s.bus.fetchByte s.hl) s.flags).1)
        { s with flags := (rotOp op (s.bus.fetchByte s.hl) s.flags).2 } := by
  apply State.ext <;> simp [rotMem]

theorem bitMem_twelve (b : Fin 8) (s : State) (h : s.cfg.bitHlTicks = .twelve) :
    bitMem b s =
      (State.onBus (readOps s.hl (s.bus.fetchByte s.hl))
        { s with flags := bitFlags b (s.bus.fetchByte s.hl) s.flags }) := by
  apply State.ext <;> simp [bitMem, h]

theorem bitMem_sixteen (b : Fin 8) (s : State) (h : s.cfg.bitHlTicks = .sixteen) :
    bitMem b s =
      (State.onBus (readOps s.hl (s.bus.fetchByte s.hl) ++ tickOps 4)
        { s with flags := bitFlags b (s.bus.fetchByte s.hl) s.flags }) := by
  apply State.ext <;> simp [bitMem, h, internal_eq]

@[simp] theorem changeMem_eq (f : Byte → Byte) (s : State) :
    changeMem f s =
      s.onBus (readOps s.hl (s.bus.fetchByte s.hl) ++ writeOps s.hl (f (s.bus.fetchByte s.hl))) := by
  simp [changeMem]

end Sys2Proof.Machine
end

