-- ==== Sys2Proof/Laws/Exec.lean ====
section
/-! SUPPORT. What `exec` does with the instructions of one form, as one shared operation over the form's operands; and the
row of the extended table a second byte selects. -/

namespace Sys2Proof.Machine

/-! ## 8-bit loads -/

@[simp] theorem exec_ofLdRegReg (dst src : Reg8) (s : State) : exec (.ofLdRegReg dst src) s = .next (ldRegReg dst src s) := by
  cases dst <;> cases src <;> rfl

@[simp] theorem exec_ofLdRegN (r : Reg8) (n : Byte) (s : State) : exec (.ofLdRegN r n) s = .next (ldRegByte r n s) := by
  cases r <;> rfl

@[simp] theorem exec_ofLdRegAtHl (r : Reg8) (s : State) : exec (.ofLdRegAtHl r) s = .next (ldRegMem r s.hl s) := by
  cases r <;> rfl

@[simp] theorem exec_ofLdAtHlReg (r : Reg8) (s : State) : exec (.ofLdAtHlReg r) s = .next (write8 s.hl (s.reg r) s) := by
  cases r <;> rfl

/-! ## 16-bit loads and the stack -/

@[simp] theorem exec_ofLdPairNn (p : Pair) (nn : Word) (s : State) : exec (.ofLdPairNn p nn) s = .next (s.setPair p nn) := by
  cases p <;> rfl

@[simp] theorem exec_ofPush (q : StackPair) (s : State) : exec (.ofPush q) s = .next (push q s) := by
  cases q <;> rfl

@[simp] theorem exec_ofPop (q : StackPair) (s : State) : exec (.ofPop q) s = .next (pop q s) := by
  cases q <;> rfl

/-! ## 8-bit and 16-bit arithmetic -/

@[simp] theorem exec_ofAluReg (op : AluOp) (r : Reg8) (s : State) : exec (.ofAluReg op r) s = .next (aluReg op r s) := by
  cases op <;> cases r <;> rfl

@[simp] theorem exec_ofAluAtHl (op : AluOp) (s : State) : exec (.ofAluAtHl op) s = .next (aluMem op s) := by
  cases op <;> rfl

@[simp] theorem exec_ofAluN (op : AluOp) (n : Byte) (s : State) : exec (.ofAluN op n) s = .next (aluByte op n s) := by
  cases op <;> rfl

@[simp] theorem exec_ofIncReg (r : Reg8) (s : State) : exec (.ofIncReg r) s = .next (stepReg incOp r s) := by
  cases r <;> rfl

@[simp] theorem exec_ofDecReg (r : Reg8) (s : State) : exec (.ofDecReg r) s = .next (stepReg decOp r s) := by
  cases r <;> rfl

@[simp] theorem exec_ofAddHlPair (p : Pair) (s : State) : exec (.ofAddHlPair p) s = .next (addHl p s) := by
  cases p <;> rfl

@[simp] theorem exec_ofIncPair (p : Pair) (s : State) : exec (.ofIncPair p) s = .next (stepPair 1 p s) := by
  cases p <;> rfl

@[simp] theorem exec_ofDecPair (p : Pair) (s : State) : exec (.ofDecPair p) s = .next (stepPair (-1) p s) := by
  cases p <;> rfl

/-! ## Control transfer -/

@[simp] theorem exec_ofJp (cc : Cond) (nn : Word) (s : State) : exec (.ofJp cc nn) s = .next (jumpIf cc nn s) := by
  cases cc <;> rfl

@[simp] theorem exec_ofJr (cc : Cond) (e : Byte) (s : State) :
    exec (.ofJr cc e) s = .next (jumpIf cc (s.pc + sext8 e) s) := by
  cases cc <;> rfl

@[simp] theorem exec_ofCall (cc : Cond) (nn : Word) (s : State) : exec (.ofCall cc nn) s = .next (callIf cc nn s) := by
  cases cc <;> rfl

@[simp] theorem exec_ofRet (cc : Cond) (s : State) : exec (.ofRet cc) s = .next (returnIf cc s) := by
  cases cc <;> rfl

/-- A property of the eight values holds of every `Fin 8`. -/
theorem forall_fin8 {P : Fin 8 → Prop} (h0 : P 0) (h1 : P 1) (h2 : P 2) (h3 : P 3) (h4 : P 4) (h5 : P 5) (h6 : P 6)
    (h7 : P 7) (y : Fin 8) : P y := by
  match y with
  | 0 => exact h0
  | 1 => exact h1
  | 2 => exact h2
  | 3 => exact h3
  | 4 => exact h4
  | 5 => exact h5
  | 6 => exact h6
  | 7 => exact h7

@[simp] theorem exec_ofRst (y : Fin 8) (s : State) : exec (.ofRst y) s = .next (call (BitVec.ofNat 16 (y.val * 8)) s) := by
  revert y
  exact forall_fin8 rfl rfl rfl rfl rfl rfl rfl rfl

/-! ## The instructions that are a form of their own -/

@[simp] theorem exec_nop (s : State) : exec .nop s = .next s := rfl

@[simp] theorem exec_ldAtBcA (s : State) : exec .ldAtBcA s = .next (write8 (s.pair .bc) s.regs.a s) := rfl

@[simp] theorem exec_rlca (s : State) : exec .rlca s = .next (onA (rotOpA .rlc) s) := rfl

@[simp] theorem exec_ldAtNnSp (nn : Word) (s : State) :
    exec (.ldAtNnSp nn) s = .next (write8 (nn + 1) (hiByte s.sp) (write8 nn (loByte s.sp) s)) := rfl

@[simp] theorem exec_ldAAtBc (s : State) : exec .ldAAtBc s = .next (ldRegMem .a (s.pair .bc) s) := rfl

@[simp] theorem exec_rrca (s : State) : exec .rrca s = .next (onA (rotOpA .rrc) s) := rfl

@[simp] theorem exec_stop (s : State) : exec .stop s = .next (raiseFatal .stop 0x10 s) := rfl

@[simp] theorem exec_ldAtDeA (s : State) : exec .ldAtDeA s = .next (write8 (s.pair .de) s.regs.a s) := rfl

@[simp] theorem exec_rla (s : State) : exec .rla s = .next (onA (rotOpA .rl) s) := rfl

@[simp] theorem exec_jrE (e : Byte) (s : State) : exec (.jrE e) s = .next (jump (s.pc + sext8 e) s) := rfl

@[simp] theorem exec_ldAAtDe (s : State) : exec .ldAAtDe s = .next (ldRegMem .a (s.pair .de) s) := rfl

@[simp] theorem exec_rra (s : State) : exec .rra s = .next (onA (rotOpA .rr) s) := rfl

@[simp] theorem exec_ldAtHlIncA (s : State) :
    exec .ldAtHlIncA s = .next (moveHl 1 s.hl (write8 s.hl s.regs.a s)) := rfl

@[simp] theorem exec_daa (s : State) : exec .daa s = .next (onA daaOp s) := rfl

@[simp] theorem exec_ldAAtHlInc (s : State) : exec .ldAAtHlInc s = .next (moveHl 1 s.hl (ldRegMem .a s.hl s)) := rfl

@[simp] theorem exec_cpl (s : State) : exec .cpl s = .next (cpl s) := rfl

@[simp] theorem exec_ldAtHlDecA (s : State) :
    exec .ldAtHlDecA s = .next (moveHl (-1) s.hl (write8 s.hl s.regs.a s)) := rfl

@[simp] theorem exec_incAtHl (s : State) : exec .incAtHl s = .next (stepMem incOp s) := rfl

@[simp] theorem exec_decAtHl (s : State) : exec .decAtHl s = .next (stepMem decOp s) := rfl

@[simp] theorem exec_ldAtHlN (n : Byte) (s : State) : exec (.ldAtHlN n) s = .next (write8 s.hl n s) := rfl

@[simp] theorem exec_scf (s : State) : exec .scf s = .next (scf s) := rfl

@[simp] theorem exec_ldAAtHlDec (s : State) :
    exec .ldAAtHlDec s = .next (moveHl (-1) s.hl (ldRegMem .a s.hl s)) := rfl

@[simp] theorem exec_ccf (s : State) : exec .ccf s = .next (ccf s) := rfl

@[simp] theorem exec_halt (s : State) : exec .halt s = .next (halt s) := rfl

@[simp] theorem exec_jpNn (nn : Word) (s : State) : exec (.jpNn nn) s = .next (jump nn s) := rfl

@[simp] theorem exec_ret (s : State) : exec .ret s = .next (returnFrom s) := rfl

@[simp] theorem exec_callNn (nn : Word) (s : State) : exec (.callNn nn) s = .next (call nn s) := rfl

@[simp] theorem exec_illegalD3 (s : State) : exec .illegalD3 s = .next (raiseFatal .decodeFailure 0xD3 s) := rfl

@[simp] theorem exec_reti (s : State) : exec .reti s = .next { returnFrom s with ime := true, pend := false } := rfl

@[simp] theorem exec_illegalDB (s : State) : exec .illegalDB s = .next (raiseFatal .decodeFailure 0xDB s) := rfl

@[simp] theorem exec_illegalDD (s : State) : exec .illegalDD s = .next (raiseFatal .decodeFailure 0xDD s) := rfl

@[simp] theorem exec_ldhAtNA (n : Byte) (s : State) :
    exec (.ldhAtNA n) s = .next (write8 (highPage n) s.regs.a s) := rfl

@[simp] theorem exec_ldAtCA (s : State) : exec .ldAtCA s = .next (write8 (highPage s.regs.c) s.regs.a s) := rfl

@[simp] theorem exec_illegalE3 (s : State) : exec .illegalE3 s = .next (raiseFatal .decodeFailure 0xE3 s) := rfl

@[simp] theorem exec_illegalE4 (s : State) : exec .illegalE4 s = .next (raiseFatal .decodeFailure 0xE4 s) := rfl

@[simp] theorem exec_addSpE (e : Byte) (s : State) : exec (.addSpE e) s = .next (addSp e s) := rfl

@[simp] theorem exec_jpHl (s : State) : exec .jpHl s = .next { s with pc := s.hl } := rfl

@[simp] theorem exec_ldAtNnA (nn : Word) (s : State) : exec (.ldAtNnA nn) s = .next (write8 nn s.regs.a s) := rfl

@[simp] theorem exec_illegalEB (s : State) : exec .illegalEB s = .next (raiseFatal .decodeFailure 0xEB s) := rfl

@[simp] theorem exec_illegalEC (s : State) : exec .illegalEC s = .next (raiseFatal .decodeFailure 0xEC s) := rfl

@[simp] theorem exec_illegalED (s : State) : exec .illegalED s = .next (raiseFatal .decodeFailure 0xED s) := rfl

@[simp] theorem exec_ldhAAtN (n : Byte) (s : State) : exec (.ldhAAtN n) s = .next (ldRegMem .a (highPage n) s) := rfl

@[simp] theorem exec_ldAAtC (s : State) : exec .ldAAtC s = .next (ldRegMem .a (highPage s.regs.c) s) := rfl

@[simp] theorem exec_di (s : State) : exec .di s = .next { s with ime := false, pend := false } := rfl

@[simp] theorem exec_illegalF4 (s : State) : exec .illegalF4 s = .next (raiseFatal .decodeFailure 0xF4 s) := rfl

@[simp] theorem exec_ldHlSpE (e : Byte) (s : State) : exec (.ldHlSpE e) s = .next (ldHlSpPlus e s) := rfl

@[simp] theorem exec_ldSpHl (s : State) : exec .ldSpHl s = .next ((internal s).setPair .sp s.hl) := rfl

@[simp] theorem exec_ldAAtNn (nn : Word) (s : State) : exec (.ldAAtNn nn) s = .next (ldRegMem .a nn s) := rfl

@[simp] theorem exec_ei (s : State) : exec .ei s = .next (ei s) := rfl

@[simp] theorem exec_illegalFC (s : State) : exec .illegalFC s = .next (raiseFatal .decodeFailure 0xFC s) := rfl

@[simp] theorem exec_illegalFD (s : State) : exec .illegalFD s = .next (raiseFatal .decodeFailure 0xFD s) := rfl

/-! ## The extended table -/

@[simp] theorem exec_ofRotReg (op : RotOp) (r : Reg8) (s : State) : exec (.ofRotReg op r) s = .next (rotReg op r s) := by
  cases op <;> cases r <;> rfl

@[simp] theorem exec_ofRotAtHl (op : RotOp) (s : State) : exec (.ofRotAtHl op) s = .next (rotMem op s) := by
  cases op <;> rfl

@[simp] theorem exec_ofBitReg (b : Fin 8) (r : Reg8) (s : State) : exec (.ofBitReg b r) s = .next (bitReg b r s) := by
  revert b
  cases r <;> exact forall_fin8 rfl rfl rfl rfl rfl rfl rfl rfl

@[simp] theorem exec_ofBitAtHl (b : Fin 8) (s : State) : exec (.ofBitAtHl b) s = .next (bitMem b s) := by
  revert b
  exact forall_fin8 rfl rfl rfl rfl rfl rfl rfl rfl

@[simp] theorem exec_ofResReg (b : Fin 8) (r : Reg8) (s : State) :
    exec (.ofResReg b r) s = .next (s.setReg r (resBit b (s.reg r))) := by
  revert b
  cases r <;> exact forall_fin8 rfl rfl rfl rfl rfl rfl rfl rfl

@[simp] theorem exec_ofResAtHl (b : Fin 8) (s : State) : exec (.ofResAtHl b) s = .next (changeMem (resBit b) s) := by
  revert b
  exact forall_fin8 rfl rfl rfl rfl rfl rfl rfl rfl

@[simp] theorem exec_ofSetReg (b : Fin 8) (r : Reg8) (s : State) :
    exec (.ofSetReg b r) s = .next (s.setReg r (setBit b (s.reg r))) := by
  revert b
  cases r <;> exact forall_fin8 rfl rfl rfl rfl rfl rfl rfl rfl

@[simp] theorem exec_ofSetAtHl (b : Fin 8) (s : State) : exec (.ofSetAtHl b) s = .next (changeMem (setBit b) s) := by
  revert b
  exact forall_fin8 rfl rfl rfl rfl rfl rfl rfl rfl

set_option maxRecDepth 20000 in
theorem cbMeanings_eq : cbMeanings = (List.range 256).map fun n => exec (decodeCb (BitVec.ofNat 8 n)) := rfl

/-- The escape's table holds the meaning of the row each second byte selects (rules R67, R178). -/
theorem cbMeaning_eq (cbop : Byte) : cbMeaning cbop = exec (decodeCb cbop) := by
  simp [cbMeaning, cbMeanings_eq]

theorem exec_prefixCb (s : State) : exec .prefixCb s = exec (decodeCb (fetch8 s).1) (fetch8 s).2 := by
  rw [← cbMeaning_eq]
  rfl

end Sys2Proof.Machine
end

