-- ==== Sys2Proof/Laws/Forms.lean ====
section
/-! SUPPORT. Case analysis on an instruction by its form: one case for each form of opcode_table.json with its operands as
variables, in place of one case for each row. -/

namespace Sys2Proof

/-- To show `motive` of every instruction, show it of every form. -/
theorem Instr.byForm {motive : Instr → Prop}
    (ldRegReg : ∀ (dst src : Reg8), motive (.ofLdRegReg dst src))
    (ldRegN : ∀ (r : Reg8) (n : Byte), motive (.ofLdRegN r n))
    (ldRegAtHl : ∀ (r : Reg8), motive (.ofLdRegAtHl r))
    (ldAtHlReg : ∀ (r : Reg8), motive (.ofLdAtHlReg r))
    (aluReg : ∀ (op : AluOp) (r : Reg8), motive (.ofAluReg op r))
    (aluAtHl : ∀ (op : AluOp), motive (.ofAluAtHl op))
    (aluN : ∀ (op : AluOp) (n : Byte), motive (.ofAluN op n))
    (incReg : ∀ (r : Reg8), motive (.ofIncReg r))
    (decReg : ∀ (r : Reg8), motive (.ofDecReg r))
    (ldPairNn : ∀ (p : Pair) (nn : Word), motive (.ofLdPairNn p nn))
    (addHlPair : ∀ (p : Pair), motive (.ofAddHlPair p))
    (incPair : ∀ (p : Pair), motive (.ofIncPair p))
    (decPair : ∀ (p : Pair), motive (.ofDecPair p))
    (push : ∀ (q : StackPair), motive (.ofPush q))
    (pop : ∀ (q : StackPair), motive (.ofPop q))
    (jpIf : ∀ (cc : Cond) (nn : Word), motive (.ofJp cc nn))
    (jrIf : ∀ (cc : Cond) (e : Byte), motive (.ofJr cc e))
    (callIf : ∀ (cc : Cond) (nn : Word), motive (.ofCall cc nn))
    (retIf : ∀ (cc : Cond), motive (.ofRet cc))
    (rst : ∀ (y : Fin 8), motive (.ofRst y))
    (rotReg : ∀ (op : RotOp) (r : Reg8), motive (.ofRotReg op r))
    (rotAtHl : ∀ (op : RotOp), motive (.ofRotAtHl op))
    (bitReg : ∀ (b : Fin 8) (r : Reg8), motive (.ofBitReg b r))
    (bitAtHl : ∀ (b : Fin 8), motive (.ofBitAtHl b))
    (resReg : ∀ (b : Fin 8) (r : Reg8), motive (.ofResReg b r))
    (resAtHl : ∀ (b : Fin 8), motive (.ofResAtHl b))
    (setReg : ∀ (b : Fin 8) (r : Reg8), motive (.ofSetReg b r))
    (setAtHl : ∀ (b : Fin 8), motive (.ofSetAtHl b))
    (nop : motive .nop)
    (ldAtBcA : motive .ldAtBcA)
    (rlca : motive .rlca)
    (ldAtNnSp : ∀ (nn : Word), motive (.ldAtNnSp nn))
    (ldAAtBc : motive .ldAAtBc)
    (rrca : motive .rrca)
    (stop : motive .stop)
    (ldAtDeA : motive .ldAtDeA)
    (rla : motive .rla)
    (jrE : ∀ (e : Byte), motive (.jrE e))
    (ldAAtDe : motive .ldAAtDe)
    (rra : motive .rra)
    (ldAtHlIncA : motive .ldAtHlIncA)
    (daa : motive .daa)
    (ldAAtHlInc : motive .ldAAtHlInc)
    (cpl : motive .cpl)
    (ldAtHlDecA : motive .ldAtHlDecA)
    (incAtHl : motive .incAtHl)
    (decAtHl : motive .decAtHl)
    (ldAtHlN : ∀ (n : Byte), motive (.ldAtHlN n))
    (scf : motive .scf)
    (ldAAtHlDec : motive .ldAAtHlDec)
    (ccf : motive .ccf)
    (halt : motive .halt)
    (jpNn : ∀ (nn : Word), motive (.jpNn nn))
    (ret : motive .ret)
    (prefixCb : motive .prefixCb)
    (callNn : ∀ (nn : Word), motive (.callNn nn))
    (illegalD3 : motive .illegalD3)
    (reti : motive .reti)
    (illegalDB : motive .illegalDB)
    (illegalDD : motive .illegalDD)
    (ldhAtNA : ∀ (n : Byte), motive (.ldhAtNA n))
    (ldAtCA : motive .ldAtCA)
    (illegalE3 : motive .illegalE3)
    (illegalE4 : motive .illegalE4)
    (addSpE : ∀ (e : Byte), motive (.addSpE e))
    (jpHl : motive .jpHl)
    (ldAtNnA : ∀ (nn : Word), motive (.ldAtNnA nn))
    (illegalEB : motive .illegalEB)
    (illegalEC : motive .illegalEC)
    (illegalED : motive .illegalED)
    (ldhAAtN : ∀ (n : Byte), motive (.ldhAAtN n))
    (ldAAtC : motive .ldAAtC)
    (di : motive .di)
    (illegalF4 : motive .illegalF4)
    (ldHlSpE : ∀ (e : Byte), motive (.ldHlSpE e))
    (ldSpHl : motive .ldSpHl)
    (ldAAtNn : ∀ (nn : Word), motive (.ldAAtNn nn))
    (ei : motive .ei)
    (illegalFC : motive .illegalFC)
    (illegalFD : motive .illegalFD)
    (i : Instr) : motive i := by
  cases i with
  | nop => exact nop
  | ldBcNn nn => exact ldPairNn .bc nn
  | ldAtBcA => exact ldAtBcA
  | incBc => exact incPair .bc
  | incB => exact incReg .b
  | decB => exact decReg .b
  | ldBN n => exact ldRegN .b n
  | rlca => exact rlca
  | ldAtNnSp nn => exact ldAtNnSp nn
  | addHlBc => exact addHlPair .bc
  | ldAAtBc => exact ldAAtBc
  | decBc => exact decPair .bc
  | incC => exact incReg .c
  | decC => exact decReg .c
  | ldCN n => exact ldRegN .c n
  | rrca => exact rrca
  | stop => exact stop
  | ldDeNn nn => exact ldPairNn .de nn
  | ldAtDeA => exact ldAtDeA
  | incDe => exact incPair .de
  | incD => exact incReg .d
  | decD => exact decReg .d
  | ldDN n => exact ldRegN .d n
  | rla => exact rla
  | jrE e => exact jrE e
  | addHlDe => exact addHlPair .de
  | ldAAtDe => exact ldAAtDe
  | decDe => exact decPair .de
  | incE => exact incReg .e
  | decE => exact decReg .e
  | ldEN n => exact ldRegN .e n
  | rra => exact rra
  | jrNzE e => exact jrIf .nz e
  | ldHlNn nn => exact ldPairNn .hl nn
  | ldAtHlIncA => exact ldAtHlIncA
  | incHl => exact incPair .hl
  | incH => exact incReg .h
  | decH => exact decReg .h
  | ldHN n => exact ldRegN .h n
  | daa => exact daa
  | jrZE e => exact jrIf .z e
  | addHlHl => exact addHlPair .hl
  | ldAAtHlInc => exact ldAAtHlInc
  | decHl => exact decPair .hl
  | incL => exact incReg .l
  | decL => exact decReg .l
  | ldLN n => exact ldRegN .l n
  | cpl => exact cpl
  | jrNcE e => exact jrIf .nc e
  | ldSpNn nn => exact ldPairNn .sp nn
  | ldAtHlDecA => exact ldAtHlDecA
  | incSp => exact incPair .sp
  | incAtHl => exact incAtHl
  | decAtHl => exact decAtHl
  | ldAtHlN n => exact ldAtHlN n
  | scf => exact scf
  | jrCE e => exact jrIf .c e
  | addHlSp => exact addHlPair .sp
  | ldAAtHlDec => exact ldAAtHlDec
  | decSp => exact decPair .sp
  | incA => exact incReg .a
  | decA => exact decReg .a
  | ldAN n => exact ldRegN .a n
  | ccf => exact ccf
  | ldBB => exact ldRegReg .b .b
  | ldBC => exact ldRegReg .b .c
  | ldBD => exact ldRegReg .b .d
  | ldBE => exact ldRegReg .b .e
  | ldBH => exact ldRegReg .b .h
  | ldBL => exact ldRegReg .b .l
  | ldBAtHl => exact ldRegAtHl .b
  | ldBA => exact ldRegReg .b .a
  | ldCB => exact ldRegReg .c .b
  | ldCC => exact ldRegReg .c .c
  | ldCD => exact ldRegReg .c .d
  | ldCE => exact ldRegReg .c .e
  | ldCH => exact ldRegReg .c .h
  | ldCL => exact ldRegReg .c .l
  | ldCAtHl => exact ldRegAtHl .c
  | ldCA => exact ldRegReg .c .a
  | ldDB => exact ldRegReg .d .b
  | ldDC => exact ldRegReg .d .c
  | ldDD => exact ldRegReg .d .d
  | ldDE => exact ldRegReg .d .e
  | ldDH => exact ldRegReg .d .h
  | ldDL => exact ldRegReg .d .l
  | ldDAtHl => exact ldRegAtHl .d
  | ldDA => exact ldRegReg .d .a
  | ldEB => exact ldRegReg .e .b
  | ldEC => exact ldRegReg .e .c
  | ldED => exact ldRegReg .e .d
  | ldEE => exact ldRegReg .e .e
  | ldEH => exact ldRegReg .e .h
  | ldEL => exact ldRegReg .e .l
  | ldEAtHl => exact ldRegAtHl .e
  | ldEA => exact ldRegReg .e .a
  | ldHB => exact ldRegReg .h .b
  | ldHC => exact ldRegReg .h .c
  | ldHD => exact ldRegReg .h .d
  | ldHE => exact ldRegReg .h .e
  | ldHH => exact ldRegReg .h .h
  | ldHL => exact ldRegReg .h .l
  | ldHAtHl => exact ldRegAtHl .h
  | ldHA => exact ldRegReg .h .a
  | ldLB => exact ldRegReg .l .b
  | ldLC => exact ldRegReg .l .c
  | ldLD => exact ldRegReg .l .d
  | ldLE => exact ldRegReg .l .e
  | ldLH => exact ldRegReg .l .h
  | ldLL => exact ldRegReg .l .l
  | ldLAtHl => exact ldRegAtHl .l
  | ldLA => exact ldRegReg .l .a
  | ldAtHlB => exact ldAtHlReg .b
  | ldAtHlC => exact ldAtHlReg .c
  | ldAtHlD => exact ldAtHlReg .d
  | ldAtHlE => exact ldAtHlReg .e
  | ldAtHlH => exact ldAtHlReg .h
  | ldAtHlL => exact ldAtHlReg .l
  | halt => exact halt
  | ldAtHlA => exact ldAtHlReg .a
  | ldAB => exact ldRegReg .a .b
  | ldAC => exact ldRegReg .a .c
  | ldAD => exact ldRegReg .a .d
  | ldAE => exact ldRegReg .a .e
  | ldAH => exact ldRegReg .a .h
  | ldAL => exact ldRegReg .a .l
  | ldAAtHl => exact ldRegAtHl .a
  | ldAA => exact ldRegReg .a .a
  | addB => exact aluReg .add .b
  | addC => exact aluReg .add .c
  | addD => exact aluReg .add .d
  | addE => exact aluReg .add .e
  | addH => exact aluReg .add .h
  | addL => exact aluReg .add .l
  | addAtHl => exact aluAtHl .add
  | addA => exact aluReg .add .a
  | adcB => exact aluReg .adc .b
  | adcC => exact aluReg .adc .c
  | adcD => exact aluReg .adc .d
  | adcE => exact aluReg .adc .e
  | adcH => exact aluReg .adc .h
  | adcL => exact aluReg .adc .l
  | adcAtHl => exact aluAtHl .adc
  | adcA => exact aluReg .adc .a
  | subB => exact aluReg .sub .b
  | subC => exact aluReg .sub .c
  | subD => exact aluReg .sub .d
  | subE => exact aluReg .sub .e
  | subH => exact aluReg .sub .h
  | subL => exact aluReg .sub .l
  | subAtHl => exact aluAtHl .sub
  | subA => exact aluReg .sub .a
  | sbcB => exact aluReg .sbc .b
  | sbcC => exact aluReg .sbc .c
  | sbcD => exact aluReg .sbc .d
  | sbcE => exact aluReg .sbc .e
  | sbcH => exact aluReg .sbc .h
  | sbcL => exact aluReg .sbc .l
  | sbcAtHl => exact aluAtHl .sbc
  | sbcA => exact aluReg .sbc .a
  | andB => exact aluReg .and .b
  | andC => exact aluReg .and .c
  | andD => exact aluReg .and .d
  | andE => exact aluReg .and .e
  | andH => exact aluReg .and .h
  | andL => exact aluReg .and .l
  | andAtHl => exact aluAtHl .and
  | andA => exact aluReg .and .a
  | xorB => exact aluReg .xor .b
  | xorC => exact aluReg .xor .c
  | xorD => exact aluReg .xor .d
  | xorE => exact aluReg .xor .e
  | xorH => exact aluReg .xor .h
  | xorL => exact aluReg .xor .l
  | xorAtHl => exact aluAtHl .xor
  | xorA => exact aluReg .xor .a
  | orB => exact aluReg .or .b
  | orC => exact aluReg .or .c
  | orD => exact aluReg .or .d
  | orE => exact aluReg .or .e
  | orH => exact aluReg .or .h
  | orL => exact aluReg .or .l
  | orAtHl => exact aluAtHl .or
  | orA => exact aluReg .or .a
  | cpB => exact aluReg .cp .b
  | cpC => exact aluReg .cp .c
  | cpD => exact aluReg .cp .d
  | cpE => exact aluReg .cp .e
  | cpH => exact aluReg .cp .h
  | cpL => exact aluReg .cp .l
  | cpAtHl => exact aluAtHl .cp
  | cpA => exact aluReg .cp .a
  | retNz => exact retIf .nz
  | popBc => exact pop .bc
  | jpNzNn nn => exact jpIf .nz nn
  | jpNn nn => exact jpNn nn
  | callNzNn nn => exact callIf .nz nn
  | pushBc => exact push .bc
  | addN n => exact aluN .add n
  | rst00 => exact rst 0
  | retZ => exact retIf .z
  | ret => exact ret
  | jpZNn nn => exact jpIf .z nn
  | prefixCb => exact prefixCb
  | callZNn nn => exact callIf .z nn
  | callNn nn => exact callNn nn
  | adcN n => exact aluN .adc n
  | rst08 => exact rst 1
  | retNc => exact retIf .nc
  | popDe => exact pop .de
  | jpNcNn nn => exact jpIf .nc nn
  | illegalD3 => exact illegalD3
  | callNcNn nn => exact callIf .nc nn
  | pushDe => exact push .de
  | subN n => exact aluN .sub n
  | rst10 => exact rst 2
  | retC => exact retIf .c
  | reti => exact reti
  | jpCNn nn => exact jpIf .c nn
  | illegalDB => exact illegalDB
  | callCNn nn => exact callIf .c nn
  | illegalDD => exact illegalDD
  | sbcN n => exact aluN .sbc n
  | rst18 => exact rst 3
  | ldhAtNA n => exact ldhAtNA n
  | popHl => exact pop .hl
  | ldAtCA => exact ldAtCA
  | illegalE3 => exact illegalE3
  | illegalE4 => exact illegalE4
  | pushHl => exact push .hl
  | andN n => exact aluN .and n
  | rst20 => exact rst 4
  | addSpE e => exact addSpE e
  | jpHl => exact jpHl
  | ldAtNnA nn => exact ldAtNnA nn
  | illegalEB => exact illegalEB
  | illegalEC => exact illegalEC
  | illegalED => exact illegalED
  | xorN n => exact aluN .xor n
  | rst28 => exact rst 5
  | ldhAAtN n => exact ldhAAtN n
  | popAf => exact pop .af
  | ldAAtC => exact ldAAtC
  | di => exact di
  | illegalF4 => exact illegalF4
  | pushAf => exact push .af
  | orN n => exact aluN .or n
  | rst30 => exact rst 6
  | ldHlSpE e => exact ldHlSpE e
  | ldSpHl => exact ldSpHl
  | ldAAtNn nn => exact ldAAtNn nn
  | ei => exact ei
  | illegalFC => exact illegalFC
  | illegalFD => exact illegalFD
  | cpN n => exact aluN .cp n
  | rst38 => exact rst 7
  | rlcB => exact rotReg .rlc .b
  | rlcC => exact rotReg .rlc .c
  | rlcD => exact rotReg .rlc .d
  | rlcE => exact rotReg .rlc .e
  | rlcH => exact rotReg .rlc .h
  | rlcL => exact rotReg .rlc .l
  | rlcAtHl => exact rotAtHl .rlc
  | rlcA => exact rotReg .rlc .a
  | rrcB => exact rotReg .rrc .b
  | rrcC => exact rotReg .rrc .c
  | rrcD => exact rotReg .rrc .d
  | rrcE => exact rotReg .rrc .e
  | rrcH => exact rotReg .rrc .h
  | rrcL => exact rotReg .rrc .l
  | rrcAtHl => exact rotAtHl .rrc
  | rrcA => exact rotReg .rrc .a
  | rlB => exact rotReg .rl .b
  | rlC => exact rotReg .rl .c
  | rlD => exact rotReg .rl .d
  | rlE => exact rotReg .rl .e
  | rlH => exact rotReg .rl .h
  | rlL => exact rotReg .rl .l
  | rlAtHl => exact rotAtHl .rl
  | rlA => exact rotReg .rl .a
  | rrB => exact rotReg .rr .b
  | rrC => exact rotReg .rr .c
  | rrD => exact rotReg .rr .d
  | rrE => exact rotReg .rr .e
  | rrH => exact rotReg .rr .h
  | rrL => exact rotReg .rr .l
  | rrAtHl => exact rotAtHl .rr
  | rrA => exact rotReg .rr .a
  | slaB => exact rotReg .sla .b
  | slaC => exact rotReg .sla .c
  | slaD => exact rotReg .sla .d
  | slaE => exact rotReg .sla .e
  | slaH => exact rotReg .sla .h
  | slaL => exact rotReg .sla .l
  | slaAtHl => exact rotAtHl .sla
  | slaA => exact rotReg .sla .a
  | sraB => exact rotReg .sra .b
  | sraC => exact rotReg .sra .c
  | sraD => exact rotReg .sra .d
  | sraE => exact rotReg .sra .e
  | sraH => exact rotReg .sra .h
  | sraL => exact rotReg .sra .l
  | sraAtHl => exact rotAtHl .sra
  | sraA => exact rotReg .sra .a
  | swapB => exact rotReg .swap .b
  | swapC => exact rotReg .swap .c
  | swapD => exact rotReg .swap .d
  | swapE => exact rotReg .swap .e
  | swapH => exact rotReg .swap .h
  | swapL => exact rotReg .swap .l
  | swapAtHl => exact rotAtHl .swap
  | swapA => exact rotReg .swap .a
  | srlB => exact rotReg .srl .b
  | srlC => exact rotReg .srl .c
  | srlD => exact rotReg .srl .d
  | srlE => exact rotReg .srl .e
  | srlH => exact rotReg .srl .h
  | srlL => exact rotReg .srl .l
  | srlAtHl => exact rotAtHl .srl
  | srlA => exact rotReg .srl .a
  | bit0B => exact bitReg 0 .b
  | bit0C => exact bitReg 0 .c
  | bit0D => exact bitReg 0 .d
  | bit0E => exact bitReg 0 .e
  | bit0H => exact bitReg 0 .h
  | bit0L => exact bitReg 0 .l
  | bit0AtHl => exact bitAtHl 0
  | bit0A => exact bitReg 0 .a
  | bit1B => exact bitReg 1 .b
  | bit1C => exact bitReg 1 .c
  | bit1D => exact bitReg 1 .d
  | bit1E => exact bitReg 1 .e
  | bit1H => exact bitReg 1 .h
  | bit1L => exact bitReg 1 .l
  | bit1AtHl => exact bitAtHl 1
  | bit1A => exact bitReg 1 .a
  | bit2B => exact bitReg 2 .b
  | bit2C => exact bitReg 2 .c
  | bit2D => exact bitReg 2 .d
  | bit2E => exact bitReg 2 .e
  | bit2H => exact bitReg 2 .h
  | bit2L => exact bitReg 2 .l
  | bit2AtHl => exact bitAtHl 2
  | bit2A => exact bitReg 2 .a
  | bit3B => exact bitReg 3 .b
  | bit3C => exact bitReg 3 .c
  | bit3D => exact bitReg 3 .d
  | bit3E => exact bitReg 3 .e
  | bit3H => exact bitReg 3 .h
  | bit3L => exact bitReg 3 .l
  | bit3AtHl => exact bitAtHl 3
  | bit3A => exact bitReg 3 .a
  | bit4B => exact bitReg 4 .b
  | bit4C => exact bitReg 4 .c
  | bit4D => exact bitReg 4 .d
  | bit4E => exact bitReg 4 .e
  | bit4H => exact bitReg 4 .h
  | bit4L => exact bitReg 4 .l
  | bit4AtHl => exact bitAtHl 4
  | bit4A => exact bitReg 4 .a
  | bit5B => exact bitReg 5 .b
  | bit5C => exact bitReg 5 .c
  | bit5D => exact bitReg 5 .d
  | bit5E => exact bitReg 5 .e
  | bit5H => exact bitReg 5 .h
  | bit5L => exact bitReg 5 .l
  | bit5AtHl => exact bitAtHl 5
  | bit5A => exact bitReg 5 .a
  | bit6B => exact bitReg 6 .b
  | bit6C => exact bitReg 6 .c
  | bit6D => exact bitReg 6 .d
  | bit6E => exact bitReg 6 .e
  | bit6H => exact bitReg 6 .h
  | bit6L => exact bitReg 6 .l
  | bit6AtHl => exact bitAtHl 6
  | bit6A => exact bitReg 6 .a
  | bit7B => exact bitReg 7 .b
  | bit7C => exact bitReg 7 .c
  | bit7D => exact bitReg 7 .d
  | bit7E => exact bitReg 7 .e
  | bit7H => exact bitReg 7 .h
  | bit7L => exact bitReg 7 .l
  | bit7AtHl => exact bitAtHl 7
  | bit7A => exact bitReg 7 .a
  | res0B => exact resReg 0 .b
  | res0C => exact resReg 0 .c
  | res0D => exact resReg 0 .d
  | res0E => exact resReg 0 .e
  | res0H => exact resReg 0 .h
  | res0L => exact resReg 0 .l
  | res0AtHl => exact resAtHl 0
  | res0A => exact resReg 0 .a
  | res1B => exact resReg 1 .b
  | res1C => exact resReg 1 .c
  | res1D => exact resReg 1 .d
  | res1E => exact resReg 1 .e
  | res1H => exact resReg 1 .h
  | res1L => exact resReg 1 .l
  | res1AtHl => exact resAtHl 1
  | res1A => exact resReg 1 .a
  | res2B => exact resReg 2 .b
  | res2C => exact resReg 2 .c
  | res2D => exact resReg 2 .d
  | res2E => exact resReg 2 .e
  | res2H => exact resReg 2 .h
  | res2L => exact resReg 2 .l
  | res2AtHl => exact resAtHl 2
  | res2A => exact resReg 2 .a
  | res3B => exact resReg 3 .b
  | res3C => exact resReg 3 .c
  | res3D => exact resReg 3 .d
  | res3E => exact resReg 3 .e
  | res3H => exact resReg 3 .h
  | res3L => exact resReg 3 .l
  | res3AtHl => exact resAtHl 3
  | res3A => exact resReg 3 .a
  | res4B => exact resReg 4 .b
  | res4C => exact resReg 4 .c
  | res4D => exact resReg 4 .d
  | res4E => exact resReg 4 .e
  | res4H => exact resReg 4 .h
  | res4L => exact resReg 4 .l
  | res4AtHl => exact resAtHl 4
  | res4A => exact resReg 4 .a
  | res5B => exact resReg 5 .b
  | res5C => exact resReg 5 .c
  | res5D => exact resReg 5 .d
  | res5E => exact resReg 5 .e
  | res5H => exact resReg 5 .h
  | res5L => exact resReg 5 .l
  | res5AtHl => exact resAtHl 5
  | res5A => exact resReg 5 .a
  | res6B => exact resReg 6 .b
  | res6C => exact resReg 6 .c
  | res6D => exact resReg 6 .d
  | res6E => exact resReg 6 .e
  | res6H => exact resReg 6 .h
  | res6L => exact resReg 6 .l
  | res6AtHl => exact resAtHl 6
  | res6A => exact resReg 6 .a
  | res7B => exact resReg 7 .b
  | res7C => exact resReg 7 .c
  | res7D => exact resReg 7 .d
  | res7E => exact resReg 7 .e
  | res7H => exact resReg 7 .h
  | res7L => exact resReg 7 .l
  | res7AtHl => exact resAtHl 7
  | res7A => exact resReg 7 .a
  | set0B => exact setReg 0 .b
  | set0C => exact setReg 0 .c
  | set0D => exact setReg 0 .d
  | set0E => exact setReg 0 .e
  | set0H => exact setReg 0 .h
  | set0L => exact setReg 0 .l
  | set0AtHl => exact setAtHl 0
  | set0A => exact setReg 0 .a
  | set1B => exact setReg 1 .b
  | set1C => exact setReg 1 .c
  | set1D => exact setReg 1 .d
  | set1E => exact setReg 1 .e
  | set1H => exact setReg 1 .h
  | set1L => exact setReg 1 .l
  | set1AtHl => exact setAtHl 1
  | set1A => exact setReg 1 .a
  | set2B => exact setReg 2 .b
  | set2C => exact setReg 2 .c
  | set2D => exact setReg 2 .d
  | set2E => exact setReg 2 .e
  | set2H => exact setReg 2 .h
  | set2L => exact setReg 2 .l
  | set2AtHl => exact setAtHl 2
  | set2A => exact setReg 2 .a
  | set3B => exact setReg 3 .b
  | set3C => exact setReg 3 .c
  | set3D => exact setReg 3 .d
  | set3E => exact setReg 3 .e
  | set3H => exact setReg 3 .h
  | set3L => exact setReg 3 .l
  | set3AtHl => exact setAtHl 3
  | set3A => exact setReg 3 .a
  | set4B => exact setReg 4 .b
  | set4C => exact setReg 4 .c
  | set4D => exact setReg 4 .d
  | set4E => exact setReg 4 .e
  | set4H => exact setReg 4 .h
  | set4L => exact setReg 4 .l
  | set4AtHl => exact setAtHl 4
  | set4A => exact setReg 4 .a
  | set5B => exact setReg 5 .b
  | set5C => exact setReg 5 .c
  | set5D => exact setReg 5 .d
  | set5E => exact setReg 5 .e
  | set5H => exact setReg 5 .h
  | set5L => exact setReg 5 .l
  | set5AtHl => exact setAtHl 5
  | set5A => exact setReg 5 .a
  | set6B => exact setReg 6 .b
  | set6C => exact setReg 6 .c
  | set6D => exact setReg 6 .d
  | set6E => exact setReg 6 .e
  | set6H => exact setReg 6 .h
  | set6L => exact setReg 6 .l
  | set6AtHl => exact setAtHl 6
  | set6A => exact setReg 6 .a
  | set7B => exact setReg 7 .b
  | set7C => exact setReg 7 .c
  | set7D => exact setReg 7 .d
  | set7E => exact setReg 7 .e
  | set7H => exact setReg 7 .h
  | set7L => exact setReg 7 .l
  | set7AtHl => exact setAtHl 7
  | set7A => exact setReg 7 .a

end Sys2Proof
end

