-- ==== Sys2Proof/Laws/Step.lean ====
section
/-! SUPPORT. The part of a step before its fetch, in closed form, and the three ways a step can go. -/

namespace Sys2Proof.Machine

/-! ## Before the fetch -/

theorem acknowledge_none (b : Bus) (h : b.nextInterrupt = none) : b.acknowledge = b := by
  simp [Bus.acknowledge, h]

/-- With IME set and an interrupt reported the step is the interrupt entry (rules R73, R208). -/
theorem beforeFetch_interrupt (s : State) (it : IntSource) (h : s.ime = true) (hn : s.bus.nextInterrupt = some it) :
    beforeFetch s = .finished (interruptEntry it ((beginStep s).onBus [.nextInterruptAck (some it)])) := by
  simp [beforeFetch, h, hn]

/-- Otherwise the step goes on from `State.opened` (rules R73, R74). -/
theorem beforeFetch_opened (s : State) (h : s.noInterrupt) : beforeFetch s = haltPhase s.opened := by
  cases hi : s.ime
  · have e : promote (beginStep s) = s.opened := by
      cases hp : s.pend <;> simp [promote, beginStep, State.opened, hi, hp]
    simp only [beforeFetch, beginStep_ime, hi, e]
    simp
  · have hn := h hi
    have e : (beginStep s).onBus [.nextInterruptAck none] = s.opened := by
      simp [State.onBus, State.opened, beginStep, hi, Bus.replay, Bus.perform, acknowledge_none _ hn]
    simp only [beforeFetch, beginStep_ime, hi, if_true, ackInterrupt_fst, ackInterrupt_snd, beginStep_bus, hn, e]

theorem haltPhase_running (s : State) (h : s.halted = false) : haltPhase s = .fetching s := by
  simp [haltPhase, h]

/-- A halted step that stays halted: IME is set, or nothing is reported after the ticks. -/
theorem haltPhase_stays (s : State) (h : s.halted = true)
    (hn : s.ime = true ∨ (s.bus.replay (tickOps s.cfg.haltIdleTicks)).nextInterrupt = none) :
    haltPhase s = .finished (s.onBus
      (tickOps s.cfg.haltIdleTicks ++ [.nextInterrupt (s.bus.replay (tickOps s.cfg.haltIdleTicks)).nextInterrupt])) := by
  rcases hn with hn | hn <;> simp [haltPhase, h, hn]

theorem haltPhase_wake (s : State) (it : IntSource) (h : s.halted = true) (hi : s.ime = false)
    (hn : (s.bus.replay (tickOps s.cfg.haltIdleTicks)).nextInterrupt = some it) :
    haltPhase s = .fetching
      (State.onBus (tickOps s.cfg.haltIdleTicks ++ [.nextInterrupt (some it)]) { s with halted := false }) := by
  simp [haltPhase, h, hi, ticks_eq, hn]
  simp [State.onBus]

/-! ## The ways a step can go -/

theorem step_fatal (s : State) (r : FatalRecord) (h : s.fatal = some r) : step s = .fault (.fatalRecorded r) := by
  simp [step, h]

theorem step_finished (s t : State) (h : s.fatal = none) (hb : beforeFetch s = .finished t) : step s = .next t := by
  simp [step, h, hb]

theorem step_fetching (s u : State) (h : s.fatal = none) (hb : beforeFetch s = .fetching u) :
    step s = fetchExecute u := by
  simp [step, h, hb]

/-- A step that gives a next state is over before its fetch, or is a fetch and an execution. -/
theorem step_cases {s t : State} (h : step s = .next t) :
    s.fatal = none ∧ (beforeFetch s = .finished t ∨ ∃ u, beforeFetch s = .fetching u ∧ fetchExecute u = .next t) := by
  cases hf : s.fatal with
  | some r => simp [step, hf] at h
  | none =>
    cases hb : beforeFetch s with
    | finished v =>
      rw [step_finished s v hf hb] at h
      cases h
      exact ⟨rfl, .inl rfl⟩
    | fetching u =>
      rw [step_fetching s u hf hb] at h
      exact ⟨rfl, .inr ⟨u, rfl, h⟩⟩

end Sys2Proof.Machine
end

