-- ==== Sys2Proof/Laws/Follows.lean ====
section
/-! SUPPORT. What fetching and executing do to the bus: exactly some operations, none of them an acknowledge, all of them
recorded and their ticks counted, with the parameters kept. -/

namespace Sys2Proof.Machine

/-- `t` follows `s` by bus operations that are recorded and counted, none of them `next_interrupt_ack()`. -/
def State.Follows (s t : State) : Prop :=
  ∃ ops : List BusOp,
    t.bus = s.bus.replay ops ∧ t.cyc = s.cyc + ticksIn ops ∧ t.trace = s.trace ++ ops ∧ t.cfg = s.cfg ∧
    ∀ it, .nextInterruptAck it ∉ ops

@[simp] theorem ack_not_mem_tickOps (it : Option IntSource) (k : Nat) : .nextInterruptAck it ∉ tickOps k := by
  simp [tickOps, List.mem_replicate]

@[simp] theorem ack_not_mem_readOps (it : Option IntSource) (a : Word) (v : Byte) :
    .nextInterruptAck it ∉ readOps a v := by
  simp [readOps]

@[simp] theorem ack_not_mem_writeOps (it : Option IntSource) (a : Word) (v : Byte) :
    .nextInterruptAck it ∉ writeOps a v := by
  simp [writeOps]

/-- A state after bus operations, updated elsewhere only. -/
theorem follows_ops {s u t : State} (ops : List BusOp) (ht : t = u.onBus ops) (hb : u.bus = s.bus) (hc : u.cyc = s.cyc)
    (hr : u.trace = s.trace) (hf : u.cfg = s.cfg) (ha : ∀ it, .nextInterruptAck it ∉ ops) : s.Follows t := by
  subst ht
  exact ⟨ops, by simp [hb], by simp [hc], by simp [hr], by simp [hf], ha⟩

/-- A state updated elsewhere only. -/
theorem follows_update {s t : State} (hb : t.bus = s.bus) (hc : t.cyc = s.cyc) (hr : t.trace = s.trace)
    (hf : t.cfg = s.cfg) : s.Follows t :=
  ⟨[], by simp [hb], by simp [hc], by simp [hr], hf, by simp⟩

theorem State.Follows.refl (s : State) : s.Follows s := follows_update rfl rfl rfl rfl

theorem State.Follows.trans {s t u : State} (h : s.Follows t) (k : t.Follows u) : s.Follows u := by
  obtain ⟨o, h1, h2, h3, h4, h5⟩ := h
  obtain ⟨o', k1, k2, k3, k4, k5⟩ := k
  exact ⟨o ++ o', by simp [*], by simp [*, Nat.add_assoc], by simp [*], by simp [*], by simp [h5, k5]⟩

/-- Updating other parts of the later state keeps the relation. -/
theorem State.Follows.update {s t u : State} (h : s.Follows t) (hb : u.bus = t.bus) (hc : u.cyc = t.cyc)
    (hr : u.trace = t.trace) (hf : u.cfg = t.cfg) : s.Follows u := h.trans (follows_update hb hc hr hf)

/-! ## Executing -/

/-- A row that is not the escape. -/
theorem exec_follows_row (i : Instr) (s t : State) (h : i.wellFormed = true) (ht : exec i s = .next t) : s.Follows t := by
  induction i using Instr.byForm with
  | prefixCb => exact absurd h (by decide)
  | reti =>
    rw [exec_reti, Host.Outcome.next.injEq] at ht
    subst ht
    refine State.Follows.update (t := returnFrom s) (follows_ops _ (returnFrom_eq s) ?_ ?_ ?_ ?_ ?_) ?_ ?_ ?_ ?_ <;> simp
  | halt =>
    simp only [exec_halt, Host.Outcome.next.injEq] at ht
    subst ht
    unfold halt
    split
    · dsimp only
      have hp : s.Follows (peekInterrupt s).2 := follows_ops _ (peekInterrupt_snd s) rfl rfl rfl rfl (by simp)
      split <;> exact hp.update (by simp) (by simp) (by simp) (by simp)
    · exact follows_update rfl rfl rfl rfl
  | ei =>
    simp only [exec_ei, ei, Host.Outcome.next.injEq] at ht
    subst ht
    split <;> exact follows_update rfl rfl rfl rfl
  | jpIf _ _ | jrIf _ _ =>
    simp only [exec_ofJp, exec_ofJr, jumpIf, Host.Outcome.next.injEq] at ht
    subst ht
    split
    · simp only [jump_eq]
      exact follows_ops _ rfl rfl rfl rfl rfl (by simp)
    · exact .refl s
  | callIf _ _ =>
    simp only [exec_ofCall, callIf, Host.Outcome.next.injEq] at ht
    subst ht
    split
    · simp only [call_eq]
      exact follows_ops _ rfl rfl rfl rfl rfl (by simp)
    · exact .refl s
  | bitAtHl b =>
    rw [exec_ofBitAtHl, Host.Outcome.next.injEq] at ht
    subst ht
    cases hc : s.cfg.bitHlTicks with
    | twelve => exact follows_ops _ (bitMem_twelve b s hc) rfl rfl rfl rfl (by simp)
    | sixteen => exact follows_ops _ (bitMem_sixteen b s hc) rfl rfl rfl rfl (by simp)
  | retIf _ =>
    simp only [exec_ofRet, returnIf, internal_eq, Host.Outcome.next.injEq] at ht
    subst ht
    have hi : s.Follows (s.onBus (tickOps 4)) := follows_ops _ rfl rfl rfl rfl rfl (by simp)
    split
    · exact hi.trans (follows_ops _ (returnFrom_eq _) rfl rfl rfl rfl (by simp))
    · exact hi
  | _ =>
    simp at ht
    subst ht
    first
    | (with_reducible refine follows_ops _ rfl ?_ ?_ ?_ ?_ ?_) <;> simp
    | (with_reducible refine follows_update ?_ ?_ ?_ ?_) <;> simp

/-- Every instruction. -/
theorem exec_follows (i : Instr) (s t : State) (ht : exec i s = .next t) : s.Follows t := by
  cases h : i.wellFormed with
  | true => exact exec_follows_row i s t h ht
  | false =>
    obtain rfl := Instr.eq_prefixCb_of_not_wellFormed i h
    rw [exec_prefixCb] at ht
    exact (follows_ops _ (fetch8_snd s) rfl rfl rfl rfl (by simp)).trans
      (exec_follows_row _ _ _ (wellFormed_decodeCb _) ht)

/-! ## Fetching -/

theorem fetch8_follows (s : State) : s.Follows (fetch8 s).2 := follows_ops _ (fetch8_snd s) rfl rfl rfl rfl (by simp)

theorem fetchOpcode_follows (s : State) : s.Follows (fetchOpcode s).2 := by
  cases h : s.haltBug
  · exact follows_ops _ (fetchOpcode_snd s h) rfl rfl rfl rfl (by simp)
  · exact follows_ops _ (fetchOpcode_snd_haltBug s h) rfl rfl rfl rfl (by simp)

theorem fetchInstr_follows (s : State) : s.Follows (fetchInstr s).2 := by
  have h := fetchOpcode_follows s
  simp only [fetchInstr, fetch16]
  split
  · exact h
  · exact h.trans (fetch8_follows _)
  · exact h.trans ((fetch8_follows _).trans (fetch8_follows _))
  · exact h

/-- A fetch and the execution of what it fetched. -/
theorem fetchExecute_follows {u t : State} (h : fetchExecute u = .next t) : u.Follows t :=
  (fetchInstr_follows u).trans (exec_follows _ _ _ h)

/-! ## The halted step -/

/-- The state a step phase holds. -/
def StepPhase.state : StepPhase → State
  | .finished s => s
  | .fetching s => s

theorem haltPhase_follows (s : State) : s.Follows (haltPhase s).state := by
  cases hh : s.halted
  · rw [haltPhase_running s hh]
    exact .refl s
  · by_cases hn : s.ime = true ∨ (s.bus.replay (tickOps s.cfg.haltIdleTicks)).nextInterrupt = none
    · rw [haltPhase_stays s hh hn]
      exact follows_ops _ rfl rfl rfl rfl rfl (by simp)
    · simp only [not_or, Bool.not_eq_true] at hn
      obtain ⟨it, hit⟩ := Option.ne_none_iff_exists'.mp hn.2
      rw [haltPhase_wake s it hh hn.1 hit]
      exact follows_ops _ rfl rfl rfl rfl rfl (by simp)

end Sys2Proof.Machine
end

