-- ==== Sys2Proof/Laws/Tables.lean ====
section
/-! SUPPORT. The tables of Safety.lean form by form: the addresses a form stores to and its row of rule R26's table. -/

namespace Sys2Proof.Machine

/-- The row of an ALU operation (rule R26). -/
def aluRowOf (op : AluOp) : FlagRow :=
  match op with
  | .add | .adc => ⟨.computed, .forced false, .computed, .computed⟩
  | .sub | .sbc | .cp => ⟨.computed, .forced true, .computed, .computed⟩
  | .and => ⟨.computed, .forced false, .forced true, .forced false⟩
  | .xor | .or => ⟨.computed, .forced false, .forced false, .forced false⟩

/-- The row of a rotate or shift of the extended table (rule R26). -/
def rotRowOf (op : RotOp) : FlagRow :=
  match op with
  | .swap => ⟨.computed, .forced false, .forced false, .forced false⟩
  | _ => ⟨.computed, .forced false, .forced false, .computed⟩

/-! ## The addresses a form stores to -/

@[simp] theorem storedAddrs_ldRegReg (dst src : Reg8) (s : State) : storedAddrs (.ofLdRegReg dst src) s = [] := by
  cases dst <;> cases src <;> rfl

@[simp] theorem storedAddrs_ldRegN (r : Reg8) (n : Byte) (s : State) : storedAddrs (.ofLdRegN r n) s = [] := by
  cases r <;> rfl

@[simp] theorem storedAddrs_ldRegAtHl (r : Reg8) (s : State) : storedAddrs (.ofLdRegAtHl r) s = [] := by
  cases r <;> rfl

@[simp] theorem storedAddrs_ldAtHlReg (r : Reg8) (s : State) : storedAddrs (.ofLdAtHlReg r) s = [s.hl] := by
  cases r <;> rfl

@[simp] theorem storedAddrs_aluReg (op : AluOp) (r : Reg8) (s : State) : storedAddrs (.ofAluReg op r) s = [] := by
  cases op <;> cases r <;> rfl

@[simp] theorem storedAddrs_aluAtHl (op : AluOp) (s : State) : storedAddrs (.ofAluAtHl op) s = [] := by
  cases op <;> rfl

@[simp] theorem storedAddrs_aluN (op : AluOp) (n : Byte) (s : State) : storedAddrs (.ofAluN op n) s = [] := by
  cases op <;> rfl

@[simp] theorem storedAddrs_incReg (r : Reg8) (s : State) : storedAddrs (.ofIncReg r) s = [] := by
  cases r <;> rfl

@[simp] theorem storedAddrs_decReg (r : Reg8) (s : State) : storedAddrs (.ofDecReg r) s = [] := by
  cases r <;> rfl

@[simp] theorem storedAddrs_ldPairNn (p : Pair) (nn : Word) (s : State) : storedAddrs (.ofLdPairNn p nn) s = [] := by
  cases p <;> rfl

@[simp] theorem storedAddrs_addHlPair (p : Pair) (s : State) : storedAddrs (.ofAddHlPair p) s = [] := by
  cases p <;> rfl

@[simp] theorem storedAddrs_incPair (p : Pair) (s : State) : storedAddrs (.ofIncPair p) s = [] := by
  cases p <;> rfl

@[simp] theorem storedAddrs_decPair (p : Pair) (s : State) : storedAddrs (.ofDecPair p) s = [] := by
  cases p <;> rfl

@[simp] theorem storedAddrs_push (q : StackPair) (s : State) : storedAddrs (.ofPush q) s = stackSlots s := by
  cases q <;> rfl

@[simp] theorem storedAddrs_pop (q : StackPair) (s : State) : storedAddrs (.ofPop q) s = [] := by
  cases q <;> rfl

@[simp] theorem storedAddrs_jpIf (cc : Cond) (nn : Word) (s : State) : storedAddrs (.ofJp cc nn) s = [] := by
  cases cc <;> rfl

@[simp] theorem storedAddrs_jrIf (cc : Cond) (e : Byte) (s : State) : storedAddrs (.ofJr cc e) s = [] := by
  cases cc <;> rfl

@[simp] theorem storedAddrs_callIf (cc : Cond) (nn : Word) (s : State) :
    storedAddrs (.ofCall cc nn) s = if s.cond cc then stackSlots s else [] := by
  cases cc <;> rfl

@[simp] theorem storedAddrs_retIf (cc : Cond) (s : State) : storedAddrs (.ofRet cc) s = [] := by
  cases cc <;> rfl

@[simp] theorem storedAddrs_rst (y : Fin 8) (s : State) : storedAddrs (.ofRst y) s = stackSlots s := by
  revert y
  exact forall_fin8 rfl rfl rfl rfl rfl rfl rfl rfl

@[simp] theorem storedAddrs_rotReg (op : RotOp) (r : Reg8) (s : State) : storedAddrs (.ofRotReg op r) s = [] := by
  cases op <;> cases r <;> rfl

@[simp] theorem storedAddrs_rotAtHl (op : RotOp) (s : State) : storedAddrs (.ofRotAtHl op) s = [s.hl] := by
  cases op <;> rfl

@[simp] theorem storedAddrs_bitReg (b : Fin 8) (r : Reg8) (s : State) : storedAddrs (.ofBitReg b r) s = [] := by
  revert b
  cases r <;> exact forall_fin8 rfl rfl rfl rfl rfl rfl rfl rfl

@[simp] theorem storedAddrs_bitAtHl (b : Fin 8) (s : State) : storedAddrs (.ofBitAtHl b) s = [] := by
  revert b
  exact forall_fin8 rfl rfl rfl rfl rfl rfl rfl rfl

@[simp] theorem storedAddrs_resReg (b : Fin 8) (r : Reg8) (s : State) : storedAddrs (.ofResReg b r) s = [] := by
  revert b
  cases r <;> exact forall_fin8 rfl rfl rfl rfl rfl rfl rfl rfl

@[simp] theorem storedAddrs_resAtHl (b : Fin 8) (s : State) : storedAddrs (.ofResAtHl b) s = [s.hl] := by
  revert b
  exact forall_fin8 rfl rfl rfl rfl rfl rfl rfl rfl

@[simp] theorem storedAddrs_setReg (b : Fin 8) (r : Reg8) (s : State) : storedAddrs (.ofSetReg b r) s = [] := by
  revert b
  cases r <;> exact forall_fin8 rfl rfl rfl rfl rfl rfl rfl rfl

@[simp] theorem storedAddrs_setAtHl (b : Fin 8) (s : State) : storedAddrs (.ofSetAtHl b) s = [s.hl] := by
  revert b
  exact forall_fin8 rfl rfl rfl rfl rfl rfl rfl rfl

@[simp] theorem storedAddrs_nop (s : State) : storedAddrs .nop s = [] := rfl

@[simp] theorem storedAddrs_ldAtBcA (s : State) : storedAddrs .ldAtBcA s = [s.pair .bc] := rfl

@[simp] theorem storedAddrs_rlca (s : State) : storedAddrs .rlca s = [] := rfl

@[simp] theorem storedAddrs_ldAtNnSp (nn : Word) (s : State) : storedAddrs (.ldAtNnSp nn) s = [nn, nn + 1] := rfl

@[simp] theorem storedAddrs_ldAAtBc (s : State) : storedAddrs .ldAAtBc s = [] := rfl

@[simp] theorem storedAddrs_rrca (s : State) : storedAddrs .rrca s = [] := rfl

@[simp] theorem storedAddrs_stop (s : State) : storedAddrs .stop s = [] := rfl

@[simp] theorem storedAddrs_ldAtDeA (s : State) : storedAddrs .ldAtDeA s = [s.pair .de] := rfl

@[simp] theorem storedAddrs_rla (s : State) : storedAddrs .rla s = [] := rfl

@[simp] theorem storedAddrs_jrE (e : Byte) (s : State) : storedAddrs (.jrE e) s = [] := rfl

@[simp] theorem storedAddrs_ldAAtDe (s : State) : storedAddrs .ldAAtDe s = [] := rfl

@[simp] theorem storedAddrs_rra (s : State) : storedAddrs .rra s = [] := rfl

@[simp] theorem storedAddrs_ldAtHlIncA (s : State) : storedAddrs .ldAtHlIncA s = [s.hl] := rfl

@[simp] theorem storedAddrs_daa (s : State) : storedAddrs .daa s = [] := rfl

@[simp] theorem storedAddrs_ldAAtHlInc (s : State) : storedAddrs .ldAAtHlInc s = [] := rfl

@[simp] theorem storedAddrs_cpl (s : State) : storedAddrs .cpl s = [] := rfl

@[simp] theorem storedAddrs_ldAtHlDecA (s : State) : storedAddrs .ldAtHlDecA s = [s.hl] := rfl

@[simp] theorem storedAddrs_incAtHl (s : State) : storedAddrs .incAtHl s = [s.hl] := rfl

@[simp] theorem storedAddrs_decAtHl (s : State) : storedAddrs .decAtHl s = [s.hl] := rfl

@[simp] theorem storedAddrs_ldAtHlN (n : Byte) (s : State) : storedAddrs (.ldAtHlN n) s = [s.hl] := rfl

@[simp] theorem storedAddrs_scf (s : State) : storedAddrs .scf s = [] := rfl

@[simp] theorem storedAddrs_ldAAtHlDec (s : State) : storedAddrs .ldAAtHlDec s = [] := rfl

@[simp] theorem storedAddrs_ccf (s : State) : storedAddrs .ccf s = [] := rfl

@[simp] theorem storedAddrs_halt (s : State) : storedAddrs .halt s = [] := rfl

@[simp] theorem storedAddrs_jpNn (nn : Word) (s : State) : storedAddrs (.jpNn nn) s = [] := rfl

@[simp] theorem storedAddrs_ret (s : State) : storedAddrs .ret s = [] := rfl

@[simp] theorem storedAddrs_callNn (nn : Word) (s : State) : storedAddrs (.callNn nn) s = stackSlots s := rfl

@[simp] theorem storedAddrs_illegalD3 (s : State) : storedAddrs .illegalD3 s = [] := rfl

@[simp] theorem storedAddrs_reti (s : State) : storedAddrs .reti s = [] := rfl

@[simp] theorem storedAddrs_illegalDB (s : State) : storedAddrs .illegalDB s = [] := rfl

@[simp] theorem storedAddrs_illegalDD (s : State) : storedAddrs .illegalDD s = [] := rfl

@[simp] theorem storedAddrs_ldhAtNA (n : Byte) (s : State) : storedAddrs (.ldhAtNA n) s = [highPage n] := rfl

@[simp] theorem storedAddrs_ldAtCA (s : State) : storedAddrs .ldAtCA s = [highPage s.regs.c] := rfl

@[simp] theorem storedAddrs_illegalE3 (s : State) : storedAddrs .illegalE3 s = [] := rfl

@[simp] theorem storedAddrs_illegalE4 (s : State) : storedAddrs .illegalE4 s = [] := rfl

@[simp] theorem storedAddrs_addSpE (e : Byte) (s : State) : storedAddrs (.addSpE e) s = [] := rfl

@[simp] theorem storedAddrs_jpHl (s : State) : storedAddrs .jpHl s = [] := rfl

@[simp] theorem storedAddrs_ldAtNnA (nn : Word) (s : State) : storedAddrs (.ldAtNnA nn) s = [nn] := rfl

@[simp] theorem storedAddrs_illegalEB (s : State) : storedAddrs .illegalEB s = [] := rfl

@[simp] theorem storedAddrs_illegalEC (s : State) : storedAddrs .illegalEC s = [] := rfl

@[simp] theorem storedAddrs_illegalED (s : State) : storedAddrs .illegalED s = [] := rfl

@[simp] theorem storedAddrs_ldhAAtN (n : Byte) (s : State) : storedAddrs (.ldhAAtN n) s = [] := rfl

@[simp] theorem storedAddrs_ldAAtC (s : State) : storedAddrs .ldAAtC s = [] := rfl

@[simp] theorem storedAddrs_di (s : State) : storedAddrs .di s = [] := rfl

@[simp] theorem storedAddrs_illegalF4 (s : State) : storedAddrs .illegalF4 s = [] := rfl

@[simp] theorem storedAddrs_ldHlSpE (e : Byte) (s : State) : storedAddrs (.ldHlSpE e) s = [] := rfl

@[simp] theorem storedAddrs_ldSpHl (s : State) : storedAddrs .ldSpHl s = [] := rfl

@[simp] theorem storedAddrs_ldAAtNn (nn : Word) (s : State) : storedAddrs (.ldAAtNn nn) s = [] := rfl

@[simp] theorem storedAddrs_ei (s : State) : storedAddrs .ei s = [] := rfl

@[simp] theorem storedAddrs_illegalFC (s : State) : storedAddrs .illegalFC s = [] := rfl

@[simp] theorem storedAddrs_illegalFD (s : State) : storedAddrs .illegalFD s = [] := rfl

/-! ## The flag row of a form -/

@[simp] theorem flagRow_ldRegReg (dst src : Reg8) : flagRow (.ofLdRegReg dst src) = ⟨.kept, .kept, .kept, .kept⟩ := by
  cases dst <;> cases src <;> rfl

@[simp] theorem flagRow_ldRegN (r : Reg8) (n : Byte) : flagRow (.ofLdRegN r n) = ⟨.kept, .kept, .kept, .kept⟩ := by
  cases r <;> rfl

@[simp] theorem flagRow_ldRegAtHl (r : Reg8) : flagRow (.ofLdRegAtHl r) = ⟨.kept, .kept, .kept, .kept⟩ := by
  cases r <;> rfl

@[simp] theorem flagRow_ldAtHlReg (r : Reg8) : flagRow (.ofLdAtHlReg r) = ⟨.kept, .kept, .kept, .kept⟩ := by
  cases r <;> rfl

@[simp] theorem flagRow_aluReg (op : AluOp) (r : Reg8) : flagRow (.ofAluReg op r) = aluRowOf op := by
  cases op <;> cases r <;> rfl

@[simp] theorem flagRow_aluAtHl (op : AluOp) : flagRow (.ofAluAtHl op) = aluRowOf op := by
  cases op <;> rfl

@[simp] theorem flagRow_aluN (op : AluOp) (n : Byte) : flagRow (.ofAluN op n) = aluRowOf op := by
  cases op <;> rfl

@[simp] theorem flagRow_incReg (r : Reg8) : flagRow (.ofIncReg r) = ⟨.computed, .forced false, .computed, .kept⟩ := by
  cases r <;> rfl

@[simp] theorem flagRow_decReg (r : Reg8) : flagRow (.ofDecReg r) = ⟨.computed, .forced true, .computed, .kept⟩ := by
  cases r <;> rfl

@[simp] theorem flagRow_ldPairNn (p : Pair) (nn : Word) :
    flagRow (.ofLdPairNn p nn) = ⟨.kept, .kept, .kept, .kept⟩ := by
  cases p <;> rfl

@[simp] theorem flagRow_addHlPair (p : Pair) :
    flagRow (.ofAddHlPair p) = ⟨.kept, .forced false, .computed, .computed⟩ := by
  cases p <;> rfl

@[simp] theorem flagRow_incPair (p : Pair) : flagRow (.ofIncPair p) = ⟨.kept, .kept, .kept, .kept⟩ := by
  cases p <;> rfl

@[simp] theorem flagRow_decPair (p : Pair) : flagRow (.ofDecPair p) = ⟨.kept, .kept, .kept, .kept⟩ := by
  cases p <;> rfl

@[simp] theorem flagRow_push (q : StackPair) : flagRow (.ofPush q) = ⟨.kept, .kept, .kept, .kept⟩ := by
  cases q <;> rfl

@[simp] theorem flagRow_pop (q : StackPair) :
    flagRow (.ofPop q) = if q = .af then ⟨.computed, .computed, .computed, .computed⟩ else ⟨.kept, .kept, .kept, .kept⟩ := by
  cases q <;> rfl

@[simp] theorem flagRow_jpIf (cc : Cond) (nn : Word) : flagRow (.ofJp cc nn) = ⟨.kept, .kept, .kept, .kept⟩ := by
  cases cc <;> rfl

@[simp] theorem flagRow_jrIf (cc : Cond) (e : Byte) : flagRow (.ofJr cc e) = ⟨.kept, .kept, .kept, .kept⟩ := by
  cases cc <;> rfl

@[simp] theorem flagRow_callIf (cc : Cond) (nn : Word) : flagRow (.ofCall cc nn) = ⟨.kept, .kept, .kept, .kept⟩ := by
  cases cc <;> rfl

@[simp] theorem flagRow_retIf (cc : Cond) : flagRow (.ofRet cc) = ⟨.kept, .kept, .kept, .kept⟩ := by
  cases cc <;> rfl

@[simp] theorem flagRow_rst (y : Fin 8) : flagRow (.ofRst y) = ⟨.kept, .kept, .kept, .kept⟩ := by
  revert y
  exact forall_fin8 rfl rfl rfl rfl rfl rfl rfl rfl

@[simp] theorem flagRow_rotReg (op : RotOp) (r : Reg8) : flagRow (.ofRotReg op r) = rotRowOf op := by
  cases op <;> cases r <;> rfl

@[simp] theorem flagRow_rotAtHl (op : RotOp) : flagRow (.ofRotAtHl op) = rotRowOf op := by
  cases op <;> rfl

@[simp] theorem flagRow_bitReg (b : Fin 8) (r : Reg8) :
    flagRow (.ofBitReg b r) = ⟨.computed, .forced false, .forced true, .kept⟩ := by
  revert b
  cases r <;> exact forall_fin8 rfl rfl rfl rfl rfl rfl rfl rfl

@[simp] theorem flagRow_bitAtHl (b : Fin 8) :
    flagRow (.ofBitAtHl b) = ⟨.computed, .forced false, .forced true, .kept⟩ := by
  revert b
  exact forall_fin8 rfl rfl rfl rfl rfl rfl rfl rfl

@[simp] theorem flagRow_resReg (b : Fin 8) (r : Reg8) : flagRow (.ofResReg b r) = ⟨.kept, .kept, .kept, .kept⟩ := by
  revert b
  cases r <;> exact forall_fin8 rfl rfl rfl rfl rfl rfl rfl rfl

@[simp] theorem flagRow_resAtHl (b : Fin 8) : flagRow (.ofResAtHl b) = ⟨.kept, .kept, .kept, .kept⟩ := by
  revert b
  exact forall_fin8 rfl rfl rfl rfl rfl rfl rfl rfl

@[simp] theorem flagRow_setReg (b : Fin 8) (r : Reg8) : flagRow (.ofSetReg b r) = ⟨.kept, .kept, .kept, .kept⟩ := by
  revert b
  cases r <;> exact forall_fin8 rfl rfl rfl rfl rfl rfl rfl rfl

@[simp] theorem flagRow_setAtHl (b : Fin 8) : flagRow (.ofSetAtHl b) = ⟨.kept, .kept, .kept, .kept⟩ := by
  revert b
  exact forall_fin8 rfl rfl rfl rfl rfl rfl rfl rfl

@[simp] theorem flagRow_nop : flagRow .nop = ⟨.kept, .kept, .kept, .kept⟩ := rfl

@[simp] theorem flagRow_ldAtBcA : flagRow .ldAtBcA = ⟨.kept, .kept, .kept, .kept⟩ := rfl

@[simp] theorem flagRow_rlca : flagRow .rlca = ⟨.forced false, .forced false, .forced false, .computed⟩ := rfl

@[simp] theorem flagRow_ldAtNnSp (nn : Word) : flagRow (.ldAtNnSp nn) = ⟨.kept, .kept, .kept, .kept⟩ := rfl

@[simp] theorem flagRow_ldAAtBc : flagRow .ldAAtBc = ⟨.kept, .kept, .kept, .kept⟩ := rfl

@[simp] theorem flagRow_rrca : flagRow .rrca = ⟨.forced false, .forced false, .forced false, .computed⟩ := rfl

@[simp] theorem flagRow_stop : flagRow .stop = ⟨.kept, .kept, .kept, .kept⟩ := rfl

@[simp] theorem flagRow_ldAtDeA : flagRow .ldAtDeA = ⟨.kept, .kept, .kept, .kept⟩ := rfl

@[simp] theorem flagRow_rla : flagRow .rla = ⟨.forced false, .forced false, .forced false, .computed⟩ := rfl

@[simp] theorem flagRow_jrE (e : Byte) : flagRow (.jrE e) = ⟨.kept, .kept, .kept, .kept⟩ := rfl

@[simp] theorem flagRow_ldAAtDe : flagRow .ldAAtDe = ⟨.kept, .kept, .kept, .kept⟩ := rfl

@[simp] theorem flagRow_rra : flagRow .rra = ⟨.forced false, .forced false, .forced false, .computed⟩ := rfl

@[simp] theorem flagRow_ldAtHlIncA : flagRow .ldAtHlIncA = ⟨.kept, .kept, .kept, .kept⟩ := rfl

@[simp] theorem flagRow_daa : flagRow .daa = ⟨.computed, .kept, .forced false, .computed⟩ := rfl

@[simp] theorem flagRow_ldAAtHlInc : flagRow .ldAAtHlInc = ⟨.kept, .kept, .kept, .kept⟩ := rfl

@[simp] theorem flagRow_cpl : flagRow .cpl = ⟨.kept, .forced true, .forced true, .kept⟩ := rfl

@[simp] theorem flagRow_ldAtHlDecA : flagRow .ldAtHlDecA = ⟨.kept, .kept, .kept, .kept⟩ := rfl

@[simp] theorem flagRow_incAtHl : flagRow .incAtHl = ⟨.computed, .forced false, .computed, .kept⟩ := rfl

@[simp] theorem flagRow_decAtHl : flagRow .decAtHl = ⟨.computed, .forced true, .computed, .kept⟩ := rfl

@[simp] theorem flagRow_ldAtHlN (n : Byte) : flagRow (.ldAtHlN n) = ⟨.kept, .kept, .kept, .kept⟩ := rfl

@[simp] theorem flagRow_scf : flagRow .scf = ⟨.kept, .forced false, .forced false, .forced true⟩ := rfl

@[simp] theorem flagRow_ldAAtHlDec : flagRow .ldAAtHlDec = ⟨.kept, .kept, .kept, .kept⟩ := rfl

@[simp] theorem flagRow_ccf : flagRow .ccf = ⟨.kept, .forced false, .forced false, .computed⟩ := rfl

@[simp] theorem flagRow_halt : flagRow .halt = ⟨.kept, .kept, .kept, .kept⟩ := rfl

@[simp] theorem flagRow_jpNn (nn : Word) : flagRow (.jpNn nn) = ⟨.kept, .kept, .kept, .kept⟩ := rfl

@[simp] theorem flagRow_ret : flagRow .ret = ⟨.kept, .kept, .kept, .kept⟩ := rfl

@[simp] theorem flagRow_callNn (nn : Word) : flagRow (.callNn nn) = ⟨.kept, .kept, .kept, .kept⟩ := rfl

@[simp] theorem flagRow_illegalD3 : flagRow .illegalD3 = ⟨.kept, .kept, .kept, .kept⟩ := rfl

@[simp] theorem flagRow_reti : flagRow .reti = ⟨.kept, .kept, .kept, .kept⟩ := rfl

@[simp] theorem flagRow_illegalDB : flagRow .illegalDB = ⟨.kept, .kept, .kept, .kept⟩ := rfl

@[simp] theorem flagRow_illegalDD : flagRow .illegalDD = ⟨.kept, .kept, .kept, .kept⟩ := rfl

@[simp] theorem flagRow_ldhAtNA (n : Byte) : flagRow (.ldhAtNA n) = ⟨.kept, .kept, .kept, .kept⟩ := rfl

@[simp] theorem flagRow_ldAtCA : flagRow .ldAtCA = ⟨.kept, .kept, .kept, .kept⟩ := rfl

@[simp] theorem flagRow_illegalE3 : flagRow .illegalE3 = ⟨.kept, .kept, .kept, .kept⟩ := rfl

@[simp] theorem flagRow_illegalE4 : flagRow .illegalE4 = ⟨.kept, .kept, .kept, .kept⟩ := rfl

@[simp] theorem flagRow_addSpE (e : Byte) :
    flagRow (.addSpE e) = ⟨.forced false, .forced false, .computed, .computed⟩ := rfl

@[simp] theorem flagRow_jpHl : flagRow .jpHl = ⟨.kept, .kept, .kept, .kept⟩ := rfl

@[simp] theorem flagRow_ldAtNnA (nn : Word) : flagRow (.ldAtNnA nn) = ⟨.kept, .kept, .kept, .kept⟩ := rfl

@[simp] theorem flagRow_illegalEB : flagRow .illegalEB = ⟨.kept, .kept, .kept, .kept⟩ := rfl

@[simp] theorem flagRow_illegalEC : flagRow .illegalEC = ⟨.kept, .kept, .kept, .kept⟩ := rfl

@[simp] theorem flagRow_illegalED : flagRow .illegalED = ⟨.kept, .kept, .kept, .kept⟩ := rfl

@[simp] theorem flagRow_ldhAAtN (n : Byte) : flagRow (.ldhAAtN n) = ⟨.kept, .kept, .kept, .kept⟩ := rfl

@[simp] theorem flagRow_ldAAtC : flagRow .ldAAtC = ⟨.kept, .kept, .kept, .kept⟩ := rfl

@[simp] theorem flagRow_di : flagRow .di = ⟨.kept, .kept, .kept, .kept⟩ := rfl

@[simp] theorem flagRow_illegalF4 : flagRow .illegalF4 = ⟨.kept, .kept, .kept, .kept⟩ := rfl

@[simp] theorem flagRow_ldHlSpE (e : Byte) :
    flagRow (.ldHlSpE e) = ⟨.forced false, .forced false, .computed, .computed⟩ := rfl

@[simp] theorem flagRow_ldSpHl : flagRow .ldSpHl = ⟨.kept, .kept, .kept, .kept⟩ := rfl

@[simp] theorem flagRow_ldAAtNn (nn : Word) : flagRow (.ldAAtNn nn) = ⟨.kept, .kept, .kept, .kept⟩ := rfl

@[simp] theorem flagRow_ei : flagRow .ei = ⟨.kept, .kept, .kept, .kept⟩ := rfl

@[simp] theorem flagRow_illegalFC : flagRow .illegalFC = ⟨.kept, .kept, .kept, .kept⟩ := rfl

@[simp] theorem flagRow_illegalFD : flagRow .illegalFD = ⟨.kept, .kept, .kept, .kept⟩ := rfl

end Sys2Proof.Machine
end

