-- ==== Sys2Proof/Tests/Slice0.lean ====
section
/-! SUPPORT. Tests. Expected values come from the spec: the opcode map of rules R66 and R67, the vectors of
95_test_vectors.md (§1, and §3 as "V" with the family and the row) and the examples in the rules. The witnesses show that
each statement's hypotheses are met together, clause by clause. -/

namespace Sys2Proof.Tests

open Sys2Proof.Machine

/-! ## The opcode map (rules R66 and R67, row by row; immediates 0x9A and 0x1234) -/

theorem test_decode_primary_0x :
    decode [0x00] = .ok (.nop, []) ∧
    decode [0x01, 0x34, 0x12] = .ok (.ldBcNn 0x1234, []) ∧
    decode [0x02] = .ok (.ldAtBcA, []) ∧
    decode [0x03] = .ok (.incBc, []) ∧
    decode [0x04] = .ok (.incB, []) ∧
    decode [0x05] = .ok (.decB, []) ∧
    decode [0x06, 0x9A] = .ok (.ldBN 0x9A, []) ∧
    decode [0x07] = .ok (.rlca, []) ∧
    decode [0x08, 0x34, 0x12] = .ok (.ldAtNnSp 0x1234, []) ∧
    decode [0x09] = .ok (.addHlBc, []) ∧
    decode [0x0A] = .ok (.ldAAtBc, []) ∧
    decode [0x0B] = .ok (.decBc, []) ∧
    decode [0x0C] = .ok (.incC, []) ∧
    decode [0x0D] = .ok (.decC, []) ∧
    decode [0x0E, 0x9A] = .ok (.ldCN 0x9A, []) ∧
    decode [0x0F] = .ok (.rrca, []) := by
  refine ⟨rfl, rfl, rfl, rfl, rfl, rfl, rfl, rfl, rfl, rfl, rfl, rfl, rfl, rfl, rfl, rfl⟩

theorem test_decode_primary_1x :
    decode [0x10] = .ok (.stop, []) ∧
    decode [0x11, 0x34, 0x12] = .ok (.ldDeNn 0x1234, []) ∧
    decode [0x12] = .ok (.ldAtDeA, []) ∧
    decode [0x13] = .ok (.incDe, []) ∧
    decode [0x14] = .ok (.incD, []) ∧
    decode [0x15] = .ok (.decD, []) ∧
    decode [0x16, 0x9A] = .ok (.ldDN 0x9A, []) ∧
    decode [0x17] = .ok (.rla, []) ∧
    decode [0x18, 0x9A] = .ok (.jrE 0x9A, []) ∧
    decode [0x19] = .ok (.addHlDe, []) ∧
    decode [0x1A] = .ok (.ldAAtDe, []) ∧
    decode [0x1B] = .ok (.decDe, []) ∧
    decode [0x1C] = .ok (.incE, []) ∧
    decode [0x1D] = .ok (.decE, []) ∧
    decode [0x1E, 0x9A] = .ok (.ldEN 0x9A, []) ∧
    decode [0x1F] = .ok (.rra, []) := by
  refine ⟨rfl, rfl, rfl, rfl, rfl, rfl, rfl, rfl, rfl, rfl, rfl, rfl, rfl, rfl, rfl, rfl⟩

theorem test_decode_primary_2x :
    decode [0x20, 0x9A] = .ok (.jrNzE 0x9A, []) ∧
    decode [0x21, 0x34, 0x12] = .ok (.ldHlNn 0x1234, []) ∧
    decode [0x22] = .ok (.ldAtHlIncA, []) ∧
    decode [0x23] = .ok (.incHl, []) ∧
    decode [0x24] = .ok (.incH, []) ∧
    decode [0x25] = .ok (.decH, []) ∧
    decode [0x26, 0x9A] = .ok (.ldHN 0x9A, []) ∧
    decode [0x27] = .ok (.daa, []) ∧
    decode [0x28, 0x9A] = .ok (.jrZE 0x9A, []) ∧
    decode [0x29] = .ok (.addHlHl, []) ∧
    decode [0x2A] = .ok (.ldAAtHlInc, []) ∧
    decode [0x2B] = .ok (.decHl, []) ∧
    decode [0x2C] = .ok (.incL, []) ∧
    decode [0x2D] = .ok (.decL, []) ∧
    decode [0x2E, 0x9A] = .ok (.ldLN 0x9A, []) ∧
    decode [0x2F] = .ok (.cpl, []) := by
  refine ⟨rfl, rfl, rfl, rfl, rfl, rfl, rfl, rfl, rfl, rfl, rfl, rfl, rfl, rfl, rfl, rfl⟩

theorem test_decode_primary_3x :
    decode [0x30, 0x9A] = .ok (.jrNcE 0x9A, []) ∧
    decode [0x31, 0x34, 0x12] = .ok (.ldSpNn 0x1234, []) ∧
    decode [0x32] = .ok (.ldAtHlDecA, []) ∧
    decode [0x33] = .ok (.incSp, []) ∧
    decode [0x34] = .ok (.incAtHl, []) ∧
    decode [0x35] = .ok (.decAtHl, []) ∧
    decode [0x36, 0x9A] = .ok (.ldAtHlN 0x9A, []) ∧
    decode [0x37] = .ok (.scf, []) ∧
    decode [0x38, 0x9A] = .ok (.jrCE 0x9A, []) ∧
    decode [0x39] = .ok (.addHlSp, []) ∧
    decode [0x3A] = .ok (.ldAAtHlDec, []) ∧
    decode [0x3B] = .ok (.decSp, []) ∧
    decode [0x3C] = .ok (.incA, []) ∧
    decode [0x3D] = .ok (.decA, []) ∧
    decode [0x3E, 0x9A] = .ok (.ldAN 0x9A, []) ∧
    decode [0x3F] = .ok (.ccf, []) := by
  refine ⟨rfl, rfl, rfl, rfl, rfl, rfl, rfl, rfl, rfl, rfl, rfl, rfl, rfl, rfl, rfl, rfl⟩

theorem test_decode_primary_4x :
    decode [0x40] = .ok (.ldBB, []) ∧
    decode [0x41] = .ok (.ldBC, []) ∧
    decode [0x42] = .ok (.ldBD, []) ∧
    decode [0x43] = .ok (.ldBE, []) ∧
    decode [0x44] = .ok (.ldBH, []) ∧
    decode [0x45] = .ok (.ldBL, []) ∧
    decode [0x46] = .ok (.ldBAtHl, []) ∧
    decode [0x47] = .ok (.ldBA, []) ∧
    decode [0x48] = .ok (.ldCB, []) ∧
    decode [0x49] = .ok (.ldCC, []) ∧
    decode [0x4A] = .ok (.ldCD, []) ∧
    decode [0x4B] = .ok (.ldCE, []) ∧
    decode [0x4C] = .ok (.ldCH, []) ∧
    decode [0x4D] = .ok (.ldCL, []) ∧
    decode [0x4E] = .ok (.ldCAtHl, []) ∧
    decode [0x4F] = .ok (.ldCA, []) := by
  refine ⟨rfl, rfl, rfl, rfl, rfl, rfl, rfl, rfl, rfl, rfl, rfl, rfl, rfl, rfl, rfl, rfl⟩

theorem test_decode_primary_5x :
    decode [0x50] = .ok (.ldDB, []) ∧
    decode [0x51] = .ok (.ldDC, []) ∧
    decode [0x52] = .ok (.ldDD, []) ∧
    decode [0x53] = .ok (.ldDE, []) ∧
    decode [0x54] = .ok (.ldDH, []) ∧
    decode [0x55] = .ok (.ldDL, []) ∧
    decode [0x56] = .ok (.ldDAtHl, []) ∧
    decode [0x57] = .ok (.ldDA, []) ∧
    decode [0x58] = .ok (.ldEB, []) ∧
    decode [0x59] = .ok (.ldEC, []) ∧
    decode [0x5A] = .ok (.ldED, []) ∧
    decode [0x5B] = .ok (.ldEE, []) ∧
    decode [0x5C] = .ok (.ldEH, []) ∧
    decode [0x5D] = .ok (.ldEL, []) ∧
    decode [0x5E] = .ok (.ldEAtHl, []) ∧
    decode [0x5F] = .ok (.ldEA, []) := by
  refine ⟨rfl, rfl, rfl, rfl, rfl, rfl, rfl, rfl, rfl, rfl, rfl, rfl, rfl, rfl, rfl, rfl⟩

theorem test_decode_primary_6x :
    decode [0x60] = .ok (.ldHB, []) ∧
    decode [0x61] = .ok (.ldHC, []) ∧
    decode [0x62] = .ok (.ldHD, []) ∧
    decode [0x63] = .ok (.ldHE, []) ∧
    decode [0x64] = .ok (.ldHH, []) ∧
    decode [0x65] = .ok (.ldHL, []) ∧
    decode [0x66] = .ok (.ldHAtHl, []) ∧
    decode [0x67] = .ok (.ldHA, []) ∧
    decode [0x68] = .ok (.ldLB, []) ∧
    decode [0x69] = .ok (.ldLC, []) ∧
    decode [0x6A] = .ok (.ldLD, []) ∧
    decode [0x6B] = .ok (.ldLE, []) ∧
    decode [0x6C] = .ok (.ldLH, []) ∧
    decode [0x6D] = .ok (.ldLL, []) ∧
    decode [0x6E] = .ok (.ldLAtHl, []) ∧
    decode [0x6F] = .ok (.ldLA, []) := by
  refine ⟨rfl, rfl, rfl, rfl, rfl, rfl, rfl, rfl, rfl, rfl, rfl, rfl, rfl, rfl, rfl, rfl⟩

theorem test_decode_primary_7x :
    decode [0x70] = .ok (.ldAtHlB, []) ∧
    decode [0x71] = .ok (.ldAtHlC, []) ∧
    decode [0x72] = .ok (.ldAtHlD, []) ∧
    decode [0x73] = .ok (.ldAtHlE, []) ∧
    decode [0x74] = .ok (.ldAtHlH, []) ∧
    decode [0x75] = .ok (.ldAtHlL, []) ∧
    decode [0x76] = .ok (.halt, []) ∧
    decode [0x77] = .ok (.ldAtHlA, []) ∧
    decode [0x78] = .ok (.ldAB, []) ∧
    decode [0x79] = .ok (.ldAC, []) ∧
    decode [0x7A] = .ok (.ldAD, []) ∧
    decode [0x7B] = .ok (.ldAE, []) ∧
    decode [0x7C] = .ok (.ldAH, []) ∧
    decode [0x7D] = .ok (.ldAL, []) ∧
    decode [0x7E] = .ok (.ldAAtHl, []) ∧
    decode [0x7F] = .ok (.ldAA, []) := by
  refine ⟨rfl, rfl, rfl, rfl, rfl, rfl, rfl, rfl, rfl, rfl, rfl, rfl, rfl, rfl, rfl, rfl⟩

theorem test_decode_primary_8x :
    decode [0x80] = .ok (.addB, []) ∧
    decode [0x81] = .ok (.addC, []) ∧
    decode [0x82] = .ok (.addD, []) ∧
    decode [0x83] = .ok (.addE, []) ∧
    decode [0x84] = .ok (.addH, []) ∧
    decode [0x85] = .ok (.addL, []) ∧
    decode [0x86] = .ok (.addAtHl, []) ∧
    decode [0x87] = .ok (.addA, []) ∧
    decode [0x88] = .ok (.adcB, []) ∧
    decode [0x89] = .ok (.adcC, []) ∧
    decode [0x8A] = .ok (.adcD, []) ∧
    decode [0x8B] = .ok (.adcE, []) ∧
    decode [0x8C] = .ok (.adcH, []) ∧
    decode [0x8D] = .ok (.adcL, []) ∧
    decode [0x8E] = .ok (.adcAtHl, []) ∧
    decode [0x8F] = .ok (.adcA, []) := by
  refine ⟨rfl, rfl, rfl, rfl, rfl, rfl, rfl, rfl, rfl, rfl, rfl, rfl, rfl, rfl, rfl, rfl⟩

theorem test_decode_primary_9x :
    decode [0x90] = .ok (.subB, []) ∧
    decode [0x91] = .ok (.subC, []) ∧
    decode [0x92] = .ok (.subD, []) ∧
    decode [0x93] = .ok (.subE, []) ∧
    decode [0x94] = .ok (.subH, []) ∧
    decode [0x95] = .ok (.subL, []) ∧
    decode [0x96] = .ok (.subAtHl, []) ∧
    decode [0x97] = .ok (.subA, []) ∧
    decode [0x98] = .ok (.sbcB, []) ∧
    decode [0x99] = .ok (.sbcC, []) ∧
    decode [0x9A] = .ok (.sbcD, []) ∧
    decode [0x9B] = .ok (.sbcE, []) ∧
    decode [0x9C] = .ok (.sbcH, []) ∧
    decode [0x9D] = .ok (.sbcL, []) ∧
    decode [0x9E] = .ok (.sbcAtHl, []) ∧
    decode [0x9F] = .ok (.sbcA, []) := by
  refine ⟨rfl, rfl, rfl, rfl, rfl, rfl, rfl, rfl, rfl, rfl, rfl, rfl, rfl, rfl, rfl, rfl⟩

theorem test_decode_primary_Ax :
    decode [0xA0] = .ok (.andB, []) ∧
    decode [0xA1] = .ok (.andC, []) ∧
    decode [0xA2] = .ok (.andD, []) ∧
    decode [0xA3] = .ok (.andE, []) ∧
    decode [0xA4] = .ok (.andH, []) ∧
    decode [0xA5] = .ok (.andL, []) ∧
    decode [0xA6] = .ok (.andAtHl, []) ∧
    decode [0xA7] = .ok (.andA, []) ∧
    decode [0xA8] = .ok (.xorB, []) ∧
    decode [0xA9] = .ok (.xorC, []) ∧
    decode [0xAA] = .ok (.xorD, []) ∧
    decode [0xAB] = .ok (.xorE, []) ∧
    decode [0xAC] = .ok (.xorH, []) ∧
    decode [0xAD] = .ok (.xorL, []) ∧
    decode [0xAE] = .ok (.xorAtHl, []) ∧
    decode [0xAF] = .ok (.xorA, []) := by
  refine ⟨rfl, rfl, rfl, rfl, rfl, rfl, rfl, rfl, rfl, rfl, rfl, rfl, rfl, rfl, rfl, rfl⟩

theorem test_decode_primary_Bx :
    decode [0xB0] = .ok (.orB, []) ∧
    decode [0xB1] = .ok (.orC, []) ∧
    decode [0xB2] = .ok (.orD, []) ∧
    decode [0xB3] = .ok (.orE, []) ∧
    decode [0xB4] = .ok (.orH, []) ∧
    decode [0xB5] = .ok (.orL, []) ∧
    decode [0xB6] = .ok (.orAtHl, []) ∧
    decode [0xB7] = .ok (.orA, []) ∧
    decode [0xB8] = .ok (.cpB, []) ∧
    decode [0xB9] = .ok (.cpC, []) ∧
    decode [0xBA] = .ok (.cpD, []) ∧
    decode [0xBB] = .ok (.cpE, []) ∧
    decode [0xBC] = .ok (.cpH, []) ∧
    decode [0xBD] = .ok (.cpL, []) ∧
    decode [0xBE] = .ok (.cpAtHl, []) ∧
    decode [0xBF] = .ok (.cpA, []) := by
  refine ⟨rfl, rfl, rfl, rfl, rfl, rfl, rfl, rfl, rfl, rfl, rfl, rfl, rfl, rfl, rfl, rfl⟩

theorem test_decode_primary_Cx :
    decode [0xC0] = .ok (.retNz, []) ∧
    decode [0xC1] = .ok (.popBc, []) ∧
    decode [0xC2, 0x34, 0x12] = .ok (.jpNzNn 0x1234, []) ∧
    decode [0xC3, 0x34, 0x12] = .ok (.jpNn 0x1234, []) ∧
    decode [0xC4, 0x34, 0x12] = .ok (.callNzNn 0x1234, []) ∧
    decode [0xC5] = .ok (.pushBc, []) ∧
    decode [0xC6, 0x9A] = .ok (.addN 0x9A, []) ∧
    decode [0xC7] = .ok (.rst00, []) ∧
    decode [0xC8] = .ok (.retZ, []) ∧
    decode [0xC9] = .ok (.ret, []) ∧
    decode [0xCA, 0x34, 0x12] = .ok (.jpZNn 0x1234, []) ∧
    decode [0xCB] = .ok (.prefixCb, []) ∧
    decode [0xCC, 0x34, 0x12] = .ok (.callZNn 0x1234, []) ∧
    decode [0xCD, 0x34, 0x12] = .ok (.callNn 0x1234, []) ∧
    decode [0xCE, 0x9A] = .ok (.adcN 0x9A, []) ∧
    decode [0xCF] = .ok (.rst08, []) := by
  refine ⟨rfl, rfl, rfl, rfl, rfl, rfl, rfl, rfl, rfl, rfl, rfl, rfl, rfl, rfl, rfl, rfl⟩

theorem test_decode_primary_Dx :
    decode [0xD0] = .ok (.retNc, []) ∧
    decode [0xD1] = .ok (.popDe, []) ∧
    decode [0xD2, 0x34, 0x12] = .ok (.jpNcNn 0x1234, []) ∧
    decode [0xD3] = .ok (.illegalD3, []) ∧
    decode [0xD4, 0x34, 0x12] = .ok (.callNcNn 0x1234, []) ∧
    decode [0xD5] = .ok (.pushDe, []) ∧
    decode [0xD6, 0x9A] = .ok (.subN 0x9A, []) ∧
    decode [0xD7] = .ok (.rst10, []) ∧
    decode [0xD8] = .ok (.retC, []) ∧
    decode [0xD9] = .ok (.reti, []) ∧
    decode [0xDA, 0x34, 0x12] = .ok (.jpCNn 0x1234, []) ∧
    decode [0xDB] = .ok (.illegalDB, []) ∧
    decode [0xDC, 0x34, 0x12] = .ok (.callCNn 0x1234, []) ∧
    decode [0xDD] = .ok (.illegalDD, []) ∧
    decode [0xDE, 0x9A] = .ok (.sbcN 0x9A, []) ∧
    decode [0xDF] = .ok (.rst18, []) := by
  refine ⟨rfl, rfl, rfl, rfl, rfl, rfl, rfl, rfl, rfl, rfl, rfl, rfl, rfl, rfl, rfl, rfl⟩

theorem test_decode_primary_Ex :
    decode [0xE0, 0x9A] = .ok (.ldhAtNA 0x9A, []) ∧
    decode [0xE1] = .ok (.popHl, []) ∧
    decode [0xE2] = .ok (.ldAtCA, []) ∧
    decode [0xE3] = .ok (.illegalE3, []) ∧
    decode [0xE4] = .ok (.illegalE4, []) ∧
    decode [0xE5] = .ok (.pushHl, []) ∧
    decode [0xE6, 0x9A] = .ok (.andN 0x9A, []) ∧
    decode [0xE7] = .ok (.rst20, []) ∧
    decode [0xE8, 0x9A] = .ok (.addSpE 0x9A, []) ∧
    decode [0xE9] = .ok (.jpHl, []) ∧
    decode [0xEA, 0x34, 0x12] = .ok (.ldAtNnA 0x1234, []) ∧
    decode [0xEB] = .ok (.illegalEB, []) ∧
    decode [0xEC] = .ok (.illegalEC, []) ∧
    decode [0xED] = .ok (.illegalED, []) ∧
    decode [0xEE, 0x9A] = .ok (.xorN 0x9A, []) ∧
    decode [0xEF] = .ok (.rst28, []) := by
  refine ⟨rfl, rfl, rfl, rfl, rfl, rfl, rfl, rfl, rfl, rfl, rfl, rfl, rfl, rfl, rfl, rfl⟩

theorem test_decode_primary_Fx :
    decode [0xF0, 0x9A] = .ok (.ldhAAtN 0x9A, []) ∧
    decode [0xF1] = .ok (.popAf, []) ∧
    decode [0xF2] = .ok (.ldAAtC, []) ∧
    decode [0xF3] = .ok (.di, []) ∧
    decode [0xF4] = .ok (.illegalF4, []) ∧
    decode [0xF5] = .ok (.pushAf, []) ∧
    decode [0xF6, 0x9A] = .ok (.orN 0x9A, []) ∧
    decode [0xF7] = .ok (.rst30, []) ∧
    decode [0xF8, 0x9A] = .ok (.ldHlSpE 0x9A, []) ∧
    decode [0xF9] = .ok (.ldSpHl, []) ∧
    decode [0xFA, 0x34, 0x12] = .ok (.ldAAtNn 0x1234, []) ∧
    decode [0xFB] = .ok (.ei, []) ∧
    decode [0xFC] = .ok (.illegalFC, []) ∧
    decode [0xFD] = .ok (.illegalFD, []) ∧
    decode [0xFE, 0x9A] = .ok (.cpN 0x9A, []) ∧
    decode [0xFF] = .ok (.rst38, []) := by
  refine ⟨rfl, rfl, rfl, rfl, rfl, rfl, rfl, rfl, rfl, rfl, rfl, rfl, rfl, rfl, rfl, rfl⟩

theorem test_decode_cb_0x :
    decode [0xCB, 0x00] = .ok (.rlcB, []) ∧
    decode [0xCB, 0x01] = .ok (.rlcC, []) ∧
    decode [0xCB, 0x02] = .ok (.rlcD, []) ∧
    decode [0xCB, 0x03] = .ok (.rlcE, []) ∧
    decode [0xCB, 0x04] = .ok (.rlcH, []) ∧
    decode [0xCB, 0x05] = .ok (.rlcL, []) ∧
    decode [0xCB, 0x06] = .ok (.rlcAtHl, []) ∧
    decode [0xCB, 0x07] = .ok (.rlcA, []) ∧
    decode [0xCB, 0x08] = .ok (.rrcB, []) ∧
    decode [0xCB, 0x09] = .ok (.rrcC, []) ∧
    decode [0xCB, 0x0A] = .ok (.rrcD, []) ∧
    decode [0xCB, 0x0B] = .ok (.rrcE, []) ∧
    decode [0xCB, 0x0C] = .ok (.rrcH, []) ∧
    decode [0xCB, 0x0D] = .ok (.rrcL, []) ∧
    decode [0xCB, 0x0E] = .ok (.rrcAtHl, []) ∧
    decode [0xCB, 0x0F] = .ok (.rrcA, []) := by
  refine ⟨rfl, rfl, rfl, rfl, rfl, rfl, rfl, rfl, rfl, rfl, rfl, rfl, rfl, rfl, rfl, rfl⟩

theorem test_decode_cb_1x :
    decode [0xCB, 0x10] = .ok (.rlB, []) ∧
    decode [0xCB, 0x11] = .ok (.rlC, []) ∧
    decode [0xCB, 0x12] = .ok (.rlD, []) ∧
    decode [0xCB, 0x13] = .ok (.rlE, []) ∧
    decode [0xCB, 0x14] = .ok (.rlH, []) ∧
    decode [0xCB, 0x15] = .ok (.rlL, []) ∧
    decode [0xCB, 0x16] = .ok (.rlAtHl, []) ∧
    decode [0xCB, 0x17] = .ok (.rlA, []) ∧
    decode [0xCB, 0x18] = .ok (.rrB, []) ∧
    decode [0xCB, 0x19] = .ok (.rrC, []) ∧
    decode [0xCB, 0x1A] = .ok (.rrD, []) ∧
    decode [0xCB, 0x1B] = .ok (.rrE, []) ∧
    decode [0xCB, 0x1C] = .ok (.rrH, []) ∧
    decode [0xCB, 0x1D] = .ok (.rrL, []) ∧
    decode [0xCB, 0x1E] = .ok (.rrAtHl, []) ∧
    decode [0xCB, 0x1F] = .ok (.rrA, []) := by
  refine ⟨rfl, rfl, rfl, rfl, rfl, rfl, rfl, rfl, rfl, rfl, rfl, rfl, rfl, rfl, rfl, rfl⟩

theorem test_decode_cb_2x :
    decode [0xCB, 0x20] = .ok (.slaB, []) ∧
    decode [0xCB, 0x21] = .ok (.slaC, []) ∧
    decode [0xCB, 0x22] = .ok (.slaD, []) ∧
    decode [0xCB, 0x23] = .ok (.slaE, []) ∧
    decode [0xCB, 0x24] = .ok (.slaH, []) ∧
    decode [0xCB, 0x25] = .ok (.slaL, []) ∧
    decode [0xCB, 0x26] = .ok (.slaAtHl, []) ∧
    decode [0xCB, 0x27] = .ok (.slaA, []) ∧
    decode [0xCB, 0x28] = .ok (.sraB, []) ∧
    decode [0xCB, 0x29] = .ok (.sraC, []) ∧
    decode [0xCB, 0x2A] = .ok (.sraD, []) ∧
    decode [0xCB, 0x2B] = .ok (.sraE, []) ∧
    decode [0xCB, 0x2C] = .ok (.sraH, []) ∧
    decode [0xCB, 0x2D] = .ok (.sraL, []) ∧
    decode [0xCB, 0x2E] = .ok (.sraAtHl, []) ∧
    decode [0xCB, 0x2F] = .ok (.sraA, []) := by
  refine ⟨rfl, rfl, rfl, rfl, rfl, rfl, rfl, rfl, rfl, rfl, rfl, rfl, rfl, rfl, rfl, rfl⟩

theorem test_decode_cb_3x :
    decode [0xCB, 0x30] = .ok (.swapB, []) ∧
    decode [0xCB, 0x31] = .ok (.swapC, []) ∧
    decode [0xCB, 0x32] = .ok (.swapD, []) ∧
    decode [0xCB, 0x33] = .ok (.swapE, []) ∧
    decode [0xCB, 0x34] = .ok (.swapH, []) ∧
    decode [0xCB, 0x35] = .ok (.swapL, []) ∧
    decode [0xCB, 0x36] = .ok (.swapAtHl, []) ∧
    decode [0xCB, 0x37] = .ok (.swapA, []) ∧
    decode [0xCB, 0x38] = .ok (.srlB, []) ∧
    decode [0xCB, 0x39] = .ok (.srlC, []) ∧
    decode [0xCB, 0x3A] = .ok (.srlD, []) ∧
    decode [0xCB, 0x3B] = .ok (.srlE, []) ∧
    decode [0xCB, 0x3C] = .ok (.srlH, []) ∧
    decode [0xCB, 0x3D] = .ok (.srlL, []) ∧
    decode [0xCB, 0x3E] = .ok (.srlAtHl, []) ∧
    decode [0xCB, 0x3F] = .ok (.srlA, []) := by
  refine ⟨rfl, rfl, rfl, rfl, rfl, rfl, rfl, rfl, rfl, rfl, rfl, rfl, rfl, rfl, rfl, rfl⟩

theorem test_decode_cb_4x :
    decode [0xCB, 0x40] = .ok (.bit0B, []) ∧
    decode [0xCB, 0x41] = .ok (.bit0C, []) ∧
    decode [0xCB, 0x42] = .ok (.bit0D, []) ∧
    decode [0xCB, 0x43] = .ok (.bit0E, []) ∧
    decode [0xCB, 0x44] = .ok (.bit0H, []) ∧
    decode [0xCB, 0x45] = .ok (.bit0L, []) ∧
    decode [0xCB, 0x46] = .ok (.bit0AtHl, []) ∧
    decode [0xCB, 0x47] = .ok (.bit0A, []) ∧
    decode [0xCB, 0x48] = .ok (.bit1B, []) ∧
    decode [0xCB, 0x49] = .ok (.bit1C, []) ∧
    decode [0xCB, 0x4A] = .ok (.bit1D, []) ∧
    decode [0xCB, 0x4B] = .ok (.bit1E, []) ∧
    decode [0xCB, 0x4C] = .ok (.bit1H, []) ∧
    decode [0xCB, 0x4D] = .ok (.bit1L, []) ∧
    decode [0xCB, 0x4E] = .ok (.bit1AtHl, []) ∧
    decode [0xCB, 0x4F] = .ok (.bit1A, []) := by
  refine ⟨rfl, rfl, rfl, rfl, rfl, rfl, rfl, rfl, rfl, rfl, rfl, rfl, rfl, rfl, rfl, rfl⟩

theorem test_decode_cb_5x :
    decode [0xCB, 0x50] = .ok (.bit2B, []) ∧
    decode [0xCB, 0x51] = .ok (.bit2C, []) ∧
    decode [0xCB, 0x52] = .ok (.bit2D, []) ∧
    decode [0xCB, 0x53] = .ok (.bit2E, []) ∧
    decode [0xCB, 0x54] = .ok (.bit2H, []) ∧
    decode [0xCB, 0x55] = .ok (.bit2L, []) ∧
    decode [0xCB, 0x56] = .ok (.bit2AtHl, []) ∧
    decode [0xCB, 0x57] = .ok (.bit2A, []) ∧
    decode [0xCB, 0x58] = .ok (.bit3B, []) ∧
    decode [0xCB, 0x59] = .ok (.bit3C, []) ∧
    decode [0xCB, 0x5A] = .ok (.bit3D, []) ∧
    decode [0xCB, 0x5B] = .ok (.bit3E, []) ∧
    decode [0xCB, 0x5C] = .ok (.bit3H, []) ∧
    decode [0xCB, 0x5D] = .ok (.bit3L, []) ∧
    decode [0xCB, 0x5E] = .ok (.bit3AtHl, []) ∧
    decode [0xCB, 0x5F] = .ok (.bit3A, []) := by
  refine ⟨rfl, rfl, rfl, rfl, rfl, rfl, rfl, rfl, rfl, rfl, rfl, rfl, rfl, rfl, rfl, rfl⟩

theorem test_decode_cb_6x :
    decode [0xCB, 0x60] = .ok (.bit4B, []) ∧
    decode [0xCB, 0x61] = .ok (.bit4C, []) ∧
    decode [0xCB, 0x62] = .ok (.bit4D, []) ∧
    decode [0xCB, 0x63] = .ok (.bit4E, []) ∧
    decode [0xCB, 0x64] = .ok (.bit4H, []) ∧
    decode [0xCB, 0x65] = .ok (.bit4L, []) ∧
    decode [0xCB, 0x66] = .ok (.bit4AtHl, []) ∧
    decode [0xCB, 0x67] = .ok (.bit4A, []) ∧
    decode [0xCB, 0x68] = .ok (.bit5B, []) ∧
    decode [0xCB, 0x69] = .ok (.bit5C, []) ∧
    decode [0xCB, 0x6A] = .ok (.bit5D, []) ∧
    decode [0xCB, 0x6B] = .ok (.bit5E, []) ∧
    decode [0xCB, 0x6C] = .ok (.bit5H, []) ∧
    decode [0xCB, 0x6D] = .ok (.bit5L, []) ∧
    decode [0xCB, 0x6E] = .ok (.bit5AtHl, []) ∧
    decode [0xCB, 0x6F] = .ok (.bit5A, []) := by
  refine ⟨rfl, rfl, rfl, rfl, rfl, rfl, rfl, rfl, rfl, rfl, rfl, rfl, rfl, rfl, rfl, rfl⟩

theorem test_decode_cb_7x :
    decode [0xCB, 0x70] = .ok (.bit6B, []) ∧
    decode [0xCB, 0x71] = .ok (.bit6C, []) ∧
    decode [0xCB, 0x72] = .ok (.bit6D, []) ∧
    decode [0xCB, 0x73] = .ok (.bit6E, []) ∧
    decode [0xCB, 0x74] = .ok (.bit6H, []) ∧
    decode [0xCB, 0x75] = .ok (.bit6L, []) ∧
    decode [0xCB, 0x76] = .ok (.bit6AtHl, []) ∧
    decode [0xCB, 0x77] = .ok (.bit6A, []) ∧
    decode [0xCB, 0x78] = .ok (.bit7B, []) ∧
    decode [0xCB, 0x79] = .ok (.bit7C, []) ∧
    decode [0xCB, 0x7A] = .ok (.bit7D, []) ∧
    decode [0xCB, 0x7B] = .ok (.bit7E, []) ∧
    decode [0xCB, 0x7C] = .ok (.bit7H, []) ∧
    decode [0xCB, 0x7D] = .ok (.bit7L, []) ∧
    decode [0xCB, 0x7E] = .ok (.bit7AtHl, []) ∧
    decode [0xCB, 0x7F] = .ok (.bit7A, []) := by
  refine ⟨rfl, rfl, rfl, rfl, rfl, rfl, rfl, rfl, rfl, rfl, rfl, rfl, rfl, rfl, rfl, rfl⟩

theorem test_decode_cb_8x :
    decode [0xCB, 0x80] = .ok (.res0B, []) ∧
    decode [0xCB, 0x81] = .ok (.res0C, []) ∧
    decode [0xCB, 0x82] = .ok (.res0D, []) ∧
    decode [0xCB, 0x83] = .ok (.res0E, []) ∧
    decode [0xCB, 0x84] = .ok (.res0H, []) ∧
    decode [0xCB, 0x85] = .ok (.res0L, []) ∧
    decode [0xCB, 0x86] = .ok (.res0AtHl, []) ∧
    decode [0xCB, 0x87] = .ok (.res0A, []) ∧
    decode [0xCB, 0x88] = .ok (.res1B, []) ∧
    decode [0xCB, 0x89] = .ok (.res1C, []) ∧
    decode [0xCB, 0x8A] = .ok (.res1D, []) ∧
    decode [0xCB, 0x8B] = .ok (.res1E, []) ∧
    decode [0xCB, 0x8C] = .ok (.res1H, []) ∧
    decode [0xCB, 0x8D] = .ok (.res1L, []) ∧
    decode [0xCB, 0x8E] = .ok (.res1AtHl, []) ∧
    decode [0xCB, 0x8F] = .ok (.res1A, []) := by
  refine ⟨rfl, rfl, rfl, rfl, rfl, rfl, rfl, rfl, rfl, rfl, rfl, rfl, rfl, rfl, rfl, rfl⟩

theorem test_decode_cb_9x :
    decode [0xCB, 0x90] = .ok (.res2B, []) ∧
    decode [0xCB, 0x91] = .ok (.res2C, []) ∧
    decode [0xCB, 0x92] = .ok (.res2D, []) ∧
    decode [0xCB, 0x93] = .ok (.res2E, []) ∧
    decode [0xCB, 0x94] = .ok (.res2H, []) ∧
    decode [0xCB, 0x95] = .ok (.res2L, []) ∧
    decode [0xCB, 0x96] = .ok (.res2AtHl, []) ∧
    decode [0xCB, 0x97] = .ok (.res2A, []) ∧
    decode [0xCB, 0x98] = .ok (.res3B, []) ∧
    decode [0xCB, 0x99] = .ok (.res3C, []) ∧
    decode [0xCB, 0x9A] = .ok (.res3D, []) ∧
    decode [0xCB, 0x9B] = .ok (.res3E, []) ∧
    decode [0xCB, 0x9C] = .ok (.res3H, []) ∧
    decode [0xCB, 0x9D] = .ok (.res3L, []) ∧
    decode [0xCB, 0x9E] = .ok (.res3AtHl, []) ∧
    decode [0xCB, 0x9F] = .ok (.res3A, []) := by
  refine ⟨rfl, rfl, rfl, rfl, rfl, rfl, rfl, rfl, rfl, rfl, rfl, rfl, rfl, rfl, rfl, rfl⟩

theorem test_decode_cb_Ax :
    decode [0xCB, 0xA0] = .ok (.res4B, []) ∧
    decode [0xCB, 0xA1] = .ok (.res4C, []) ∧
    decode [0xCB, 0xA2] = .ok (.res4D, []) ∧
    decode [0xCB, 0xA3] = .ok (.res4E, []) ∧
    decode [0xCB, 0xA4] = .ok (.res4H, []) ∧
    decode [0xCB, 0xA5] = .ok (.res4L, []) ∧
    decode [0xCB, 0xA6] = .ok (.res4AtHl, []) ∧
    decode [0xCB, 0xA7] = .ok (.res4A, []) ∧
    decode [0xCB, 0xA8] = .ok (.res5B, []) ∧
    decode [0xCB, 0xA9] = .ok (.res5C, []) ∧
    decode [0xCB, 0xAA] = .ok (.res5D, []) ∧
    decode [0xCB, 0xAB] = .ok (.res5E, []) ∧
    decode [0xCB, 0xAC] = .ok (.res5H, []) ∧
    decode [0xCB, 0xAD] = .ok (.res5L, []) ∧
    decode [0xCB, 0xAE] = .ok (.res5AtHl, []) ∧
    decode [0xCB, 0xAF] = .ok (.res5A, []) := by
  refine ⟨rfl, rfl, rfl, rfl, rfl, rfl, rfl, rfl, rfl, rfl, rfl, rfl, rfl, rfl, rfl, rfl⟩

theorem test_decode_cb_Bx :
    decode [0xCB, 0xB0] = .ok (.res6B, []) ∧
    decode [0xCB, 0xB1] = .ok (.res6C, []) ∧
    decode [0xCB, 0xB2] = .ok (.res6D, []) ∧
    decode [0xCB, 0xB3] = .ok (.res6E, []) ∧
    decode [0xCB, 0xB4] = .ok (.res6H, []) ∧
    decode [0xCB, 0xB5] = .ok (.res6L, []) ∧
    decode [0xCB, 0xB6] = .ok (.res6AtHl, []) ∧
    decode [0xCB, 0xB7] = .ok (.res6A, []) ∧
    decode [0xCB, 0xB8] = .ok (.res7B, []) ∧
    decode [0xCB, 0xB9] = .ok (.res7C, []) ∧
    decode [0xCB, 0xBA] = .ok (.res7D, []) ∧
    decode [0xCB, 0xBB] = .ok (.res7E, []) ∧
    decode [0xCB, 0xBC] = .ok (.res7H, []) ∧
    decode [0xCB, 0xBD] = .ok (.res7L, []) ∧
    decode [0xCB, 0xBE] = .ok (.res7AtHl, []) ∧
    decode [0xCB, 0xBF] = .ok (.res7A, []) := by
  refine ⟨rfl, rfl, rfl, rfl, rfl, rfl, rfl, rfl, rfl, rfl, rfl, rfl, rfl, rfl, rfl, rfl⟩

theorem test_decode_cb_Cx :
    decode [0xCB, 0xC0] = .ok (.set0B, []) ∧
    decode [0xCB, 0xC1] = .ok (.set0C, []) ∧
    decode [0xCB, 0xC2] = .ok (.set0D, []) ∧
    decode [0xCB, 0xC3] = .ok (.set0E, []) ∧
    decode [0xCB, 0xC4] = .ok (.set0H, []) ∧
    decode [0xCB, 0xC5] = .ok (.set0L, []) ∧
    decode [0xCB, 0xC6] = .ok (.set0AtHl, []) ∧
    decode [0xCB, 0xC7] = .ok (.set0A, []) ∧
    decode [0xCB, 0xC8] = .ok (.set1B, []) ∧
    decode [0xCB, 0xC9] = .ok (.set1C, []) ∧
    decode [0xCB, 0xCA] = .ok (.set1D, []) ∧
    decode [0xCB, 0xCB] = .ok (.set1E, []) ∧
    decode [0xCB, 0xCC] = .ok (.set1H, []) ∧
    decode [0xCB, 0xCD] = .ok (.set1L, []) ∧
    decode [0xCB, 0xCE] = .ok (.set1AtHl, []) ∧
    decode [0xCB, 0xCF] = .ok (.set1A, []) := by
  refine ⟨rfl, rfl, rfl, rfl, rfl, rfl, rfl, rfl, rfl, rfl, rfl, rfl, rfl, rfl, rfl, rfl⟩

theorem test_decode_cb_Dx :
    decode [0xCB, 0xD0] = .ok (.set2B, []) ∧
    decode [0xCB, 0xD1] = .ok (.set2C, []) ∧
    decode [0xCB, 0xD2] = .ok (.set2D, []) ∧
    decode [0xCB, 0xD3] = .ok (.set2E, []) ∧
    decode [0xCB, 0xD4] = .ok (.set2H, []) ∧
    decode [0xCB, 0xD5] = .ok (.set2L, []) ∧
    decode [0xCB, 0xD6] = .ok (.set2AtHl, []) ∧
    decode [0xCB, 0xD7] = .ok (.set2A, []) ∧
    decode [0xCB, 0xD8] = .ok (.set3B, []) ∧
    decode [0xCB, 0xD9] = .ok (.set3C, []) ∧
    decode [0xCB, 0xDA] = .ok (.set3D, []) ∧
    decode [0xCB, 0xDB] = .ok (.set3E, []) ∧
    decode [0xCB, 0xDC] = .ok (.set3H, []) ∧
    decode [0xCB, 0xDD] = .ok (.set3L, []) ∧
    decode [0xCB, 0xDE] = .ok (.set3AtHl, []) ∧
    decode [0xCB, 0xDF] = .ok (.set3A, []) := by
  refine ⟨rfl, rfl, rfl, rfl, rfl, rfl, rfl, rfl, rfl, rfl, rfl, rfl, rfl, rfl, rfl, rfl⟩

theorem test_decode_cb_Ex :
    decode [0xCB, 0xE0] = .ok (.set4B, []) ∧
    decode [0xCB, 0xE1] = .ok (.set4C, []) ∧
    decode [0xCB, 0xE2] = .ok (.set4D, []) ∧
    decode [0xCB, 0xE3] = .ok (.set4E, []) ∧
    decode [0xCB, 0xE4] = .ok (.set4H, []) ∧
    decode [0xCB, 0xE5] = .ok (.set4L, []) ∧
    decode [0xCB, 0xE6] = .ok (.set4AtHl, []) ∧
    decode [0xCB, 0xE7] = .ok (.set4A, []) ∧
    decode [0xCB, 0xE8] = .ok (.set5B, []) ∧
    decode [0xCB, 0xE9] = .ok (.set5C, []) ∧
    decode [0xCB, 0xEA] = .ok (.set5D, []) ∧
    decode [0xCB, 0xEB] = .ok (.set5E, []) ∧
    decode [0xCB, 0xEC] = .ok (.set5H, []) ∧
    decode [0xCB, 0xED] = .ok (.set5L, []) ∧
    decode [0xCB, 0xEE] = .ok (.set5AtHl, []) ∧
    decode [0xCB, 0xEF] = .ok (.set5A, []) := by
  refine ⟨rfl, rfl, rfl, rfl, rfl, rfl, rfl, rfl, rfl, rfl, rfl, rfl, rfl, rfl, rfl, rfl⟩

theorem test_decode_cb_Fx :
    decode [0xCB, 0xF0] = .ok (.set6B, []) ∧
    decode [0xCB, 0xF1] = .ok (.set6C, []) ∧
    decode [0xCB, 0xF2] = .ok (.set6D, []) ∧
    decode [0xCB, 0xF3] = .ok (.set6E, []) ∧
    decode [0xCB, 0xF4] = .ok (.set6H, []) ∧
    decode [0xCB, 0xF5] = .ok (.set6L, []) ∧
    decode [0xCB, 0xF6] = .ok (.set6AtHl, []) ∧
    decode [0xCB, 0xF7] = .ok (.set6A, []) ∧
    decode [0xCB, 0xF8] = .ok (.set7B, []) ∧
    decode [0xCB, 0xF9] = .ok (.set7C, []) ∧
    decode [0xCB, 0xFA] = .ok (.set7D, []) ∧
    decode [0xCB, 0xFB] = .ok (.set7E, []) ∧
    decode [0xCB, 0xFC] = .ok (.set7H, []) ∧
    decode [0xCB, 0xFD] = .ok (.set7L, []) ∧
    decode [0xCB, 0xFE] = .ok (.set7AtHl, []) ∧
    decode [0xCB, 0xFF] = .ok (.set7A, []) := by
  refine ⟨rfl, rfl, rfl, rfl, rfl, rfl, rfl, rfl, rfl, rfl, rfl, rfl, rfl, rfl, rfl, rfl⟩

/-! ## Encodings by their fields (rules R59 to R64), table words (log 12) and well-formedness -/

theorem test_decode_by_fields :
    decode [0b01_000_001] = .ok (.ldBC, []) ∧ decode [0b00_111_110, 0x12] = .ok (.ldAN 0x12, []) ∧
    decode [0b10_011_110] = .ok (.sbcAtHl, []) ∧ decode [0b11_101_110, 0x0F] = .ok (.xorN 0x0F, []) ∧
    decode [0b00_10_1_001] = .ok (.addHlHl, []) ∧ decode [0b11_11_0_001] = .ok (.popAf, []) ∧
    decode [0b11_010_010, 0x00, 0x30] = .ok (.jpNcNn 0x3000, []) ∧ decode [0b11_111_111] = .ok (.rst38, []) ∧
    decode [0b01_110_110] = .ok (.halt, []) ∧ decode [0xCB, 0b00_110_111] = .ok (.swapA, []) ∧
    decode [0xCB, 0b01_111_100] = .ok (.bit7H, []) ∧ decode [0xCB, 0b11_000_110] = .ok (.set0AtHl, []) := by
  refine ⟨rfl, rfl, rfl, rfl, rfl, rfl, rfl, rfl, rfl, rfl, rfl, rfl⟩

theorem test_decode_refuses_the_empty_and_the_cut :
    decode [] = .error .empty ∧ decode [0x06] = .error (.truncated 0x06) ∧
    decode [0xC3, 0x00] = .error (.truncated 0xC3) := by
  refine ⟨rfl, rfl, rfl⟩

theorem test_decodeTableWord :
    decodeTableWord 8 0x00 = some .nop ∧ decodeTableWord 24 0xC03421 = some (.ldHlNn 0xC034) ∧
    decodeTableWord 8 0x3E = some (.ldAN 0x00) ∧ decodeTableWord 8 0xCB = some .prefixCb ∧
    decodeTableWord 16 0xCB7C = some .bit7H := by
  refine ⟨rfl, rfl, rfl, rfl, rfl⟩

theorem test_wellFormed_refuses_the_escape_alone :
    Instr.wellFormed .prefixCb = false ∧ Instr.wellFormed .rlcB = true := by
  decide

/-! ## One step on small states -/

/-- Cold boot with PC = 0x0100 (95_test_vectors.md §3, "The start state"). -/
def start : State := { State.reset with pc := 0x0100 }

/-- The state with bytes placed from PC on. -/
def withCode (bytes : List Byte) (s : State) : State := { s with bus := placeBytes s.bus s.pc bytes }

/-- The state with a byte placed. -/
def withByte (a : Word) (v : Byte) (s : State) : State := { s with bus := s.bus.poke a.toNat v }

/-- The state with one interrupt condition pending and enabled. -/
def withInterrupt (it : IntSource) (s : State) : State :=
  { s with bus := { s.bus with pending := IntSet.empty.put it true, enabled := IntSet.empty.put it true } }

/-- What a test looks at after one step. -/
def stepped {α : Type} (f : State → α) (s : State) : Option α :=
  match step s with
  | .next t => some (f t)
  | _ => none

/-- A, F, PC and the count. -/
def look (s : State) : Byte × Byte × Word × Nat := (s.regs.a, s.flags.pack, s.pc, s.cyc)

theorem test_nop : stepped look (withCode [0x00] start) = some (0x00, 0x00, 0x0101, 4) := by decide

theorem test_ld_b_n :
    stepped (fun t => (t.regs.b, t.pc, t.cyc)) (withCode [0x06, 0x42] start) = some (0x42, 0x0102, 8) := by decide

/-- V 41_load8 row 2. -/
theorem test_ld_h_atHl :
    stepped (fun t => (t.hl, t.pc, t.cyc))
      (withByte 0xC123 0x77 (withCode [0x66] (start.setPair .hl 0xC123))) = some (0x7723, 0x0101, 8) := by decide

/-- V 41_load8 row 4: HL wraps upwards, and the store goes to the old HL. -/
theorem test_ld_atHlInc_a :
    stepped (fun t => (t.hl, t.bus.fetchByte 0xFFFF, t.cyc))
      (withCode [0x22] ((start.setPair .hl 0xFFFF).setReg .a 0x5C)) = some (0x0000, 0x5C, 8) := by decide

/-- V 41_load8 row 5: HL wraps downwards. -/
theorem test_ld_a_atHlDec :
    stepped (fun t => (t.hl, t.regs.a, t.cyc)) (withByte 0x0000 0x3A (withCode [0x3A] start)) =
      some (0xFFFF, 0x3A, 8) := by decide

/-- V 41_load8 row 6. -/
theorem test_ld_a_atC :
    stepped look (withByte 0xFFFF 0xE7 (withCode [0xF2] (start.setReg .c 0xFF))) = some (0xE7, 0x00, 0x0101, 8) := by
  decide

/-- V 41_load8 row 7: an immediate at 0x0000. -/
theorem test_ld_a_n_wraps :
    stepped look (withByte 0x0000 0x99 (withByte 0xFFFF 0x3E { start with pc := 0xFFFF })) =
      some (0x99, 0x00, 0x0001, 8) := by decide

/-- V 41_load8 row 8. -/
theorem test_ld_atNn_a :
    stepped (fun t => (t.bus.fetchByte 0xFFFF, t.pc, t.cyc)) (withCode [0xEA, 0xFF, 0xFF] (start.setReg .a 0x01)) =
      some (0x01, 0x0103, 16) := by decide

/-- V 42_load16_stack row 1: the push wraps, high byte first. -/
theorem test_push_bc :
    stepped (fun t => (t.sp, t.bus.fetchByte 0x0000, t.bus.fetchByte 0xFFFF, t.cyc))
      (withCode [0xC5] { start.setPair .bc 0xABCD with sp := 0x0001 }) = some (0xFFFF, 0xAB, 0xCD, 16) := by decide

/-- V 42_load16_stack row 3: the low nibble is discarded. -/
theorem test_pop_af :
    stepped (fun t => (look t, t.sp)) (withByte 0xD000 0xFF (withCode [0xF1] { start with sp := 0xD000 })) =
      some ((0x00, 0xF0, 0x0101, 12), 0xD002) := by decide

/-- V 42_load16_stack rows 4 and 5. -/
theorem test_ld_hl_spE :
    stepped (fun t => (t.hl, t.flags.pack, t.cyc)) (withCode [0xF8, 0xFF] { start with sp := 0x0000 }) =
      some (0xFFFF, 0x00, 12) ∧
    stepped (fun t => (t.hl, t.flags.pack, t.cyc)) (withCode [0xF8, 0x01] { start with sp := 0x00FF }) =
      some (0x0100, 0x30, 12) := by decide

/-- V 42_load16_stack row 7. -/
theorem test_ld_atNn_sp :
    stepped (fun t => (t.bus.fetchByte 0xFFFF, t.bus.fetchByte 0x0000, t.cyc))
      (withCode [0x08, 0xFF, 0xFF] { start with sp := 0xBEEF }) = some (0xEF, 0xBE, 20) := by decide

/-- V 43_alu8 row 3: the carry in makes both carries. -/
theorem test_adc_c :
    stepped look (withCode [0x89] { start.setReg .a 0xFF with flags := ⟨false, false, false, true⟩ }) =
      some (0x00, 0xB0, 0x0101, 4) := by decide

/-- V 43_alu8 row 4. -/
theorem test_sub_b :
    stepped look (withCode [0x90] ((start.setReg .a 0x10).setReg .b 0x01)) = some (0x0F, 0x60, 0x0101, 4) := by decide

/-- V 43_alu8 rows 5 and 6. -/
theorem test_sbc_b :
    stepped look (withCode [0x98] { start with flags := ⟨false, false, false, true⟩ }) = some (0xFF, 0x70, 0x0101, 4) ∧
    stepped look
      (withCode [0x98] { (start.setReg .a 0x10).setReg .b 0x0F with flags := ⟨false, false, false, true⟩ }) =
      some (0x00, 0xE0, 0x0101, 4) := by decide

/-- V 43_alu8 row 7. -/
theorem test_cp_a : stepped look (withCode [0xBF] (start.setReg .a 0x42)) = some (0x42, 0xC0, 0x0101, 4) := by decide

/-- V 43_alu8 rows 8 and 9: Cf is kept. -/
theorem test_inc_a_dec_b :
    stepped look (withCode [0x3C] { start.setReg .a 0x0F with flags := ⟨false, false, false, true⟩ }) =
      some (0x10, 0x30, 0x0101, 4) ∧
    stepped (fun t => (t.regs.b, t.flags.pack)) (withCode [0x05] (start.setReg .b 0x10)) = some (0x0F, 0x60) := by decide

/-- V 43_alu8 rows 10 and 12. -/
theorem test_daa :
    stepped look (withCode [0x27] (start.setReg .a 0x9A)) = some (0x00, 0x90, 0x0101, 4) ∧
    stepped look (withCode [0x27] { start.setReg .a 0xFA with flags := ⟨false, true, true, true⟩ }) =
      some (0x94, 0x50, 0x0101, 4) := by decide

/-- V 43_alu8 row 14: RLCA clears Z. -/
theorem test_rlca :
    stepped look (withCode [0x07] { start with flags := ⟨true, false, false, false⟩ }) = some (0x00, 0x00, 0x0101, 4) := by
  decide

/-- V 43_alu8 rows 15 and 16. -/
theorem test_cpl_ccf :
    stepped look (withCode [0x2F] { start with flags := ⟨true, false, false, true⟩ }) = some (0xFF, 0xF0, 0x0101, 4) ∧
    stepped look (withCode [0x3F] { start with flags := ⟨true, false, false, false⟩ }) = some (0x00, 0x90, 0x0101, 4) := by
  decide

/-- V 44_alu16 rows 1 and 2. -/
theorem test_add_hl :
    stepped (fun t => (t.hl, t.flags.pack, t.cyc))
      (withCode [0x39] { start.setPair .hl 0x8000 with sp := 0x8000, flags := ⟨true, false, false, false⟩ }) =
      some (0x0000, 0x90, 8) ∧
    stepped (fun t => (t.hl, t.flags.pack, t.cyc)) (withCode [0x19] ((start.setPair .hl 0x0FFF).setPair .de 0x0001)) =
      some (0x1000, 0x20, 8) := by decide

/-- V 44_alu16 row 4. -/
theorem test_dec_bc :
    stepped (fun t => (t.pair .bc, t.flags.pack, t.cyc)) (withCode [0x0B] { start with flags := ⟨true, false, false, true⟩ }) =
      some (0xFFFF, 0x90, 8) := by decide

/-- V 44_alu16 rows 5 and 6. -/
theorem test_add_sp_e :
    stepped (fun t => (t.sp, t.flags.pack, t.cyc)) (withCode [0xE8, 0xFF] { start with sp := 0x0001 }) =
      some (0x0000, 0x30, 16) ∧
    stepped (fun t => (t.sp, t.flags.pack, t.cyc)) (withCode [0xE8, 0x80] { start with sp := 0x0000 }) =
      some (0xFF80, 0x00, 16) := by decide

/-- V 45_control rows 2 and 3. -/
theorem test_jr_e :
    stepped look (withCode [0x18, 0x80] start) = some (0x00, 0x00, 0x0082, 12) ∧
    stepped look (withCode [0x18, 0x01] { start with pc := 0xFFFE }) = some (0x00, 0x00, 0x0001, 12) := by decide

/-- §1 scenarios 3 and 4. -/
theorem test_jp_z :
    stepped look (withCode [0xCA, 0x00, 0x02] start) = some (0x00, 0x00, 0x0103, 12) ∧
    stepped look (withCode [0xCA, 0x00, 0x02] { start with flags := ⟨true, false, false, false⟩ }) =
      some (0x00, 0x80, 0x0200, 16) := by decide

/-- V 45_control row 6. -/
theorem test_call :
    stepped (fun t => (t.sp, t.pc, t.bus.fetchByte 0x0000, t.bus.fetchByte 0xFFFF, t.cyc))
      (withCode [0xCD, 0x00, 0x30] { start with sp := 0x0001 }) = some (0xFFFF, 0x3000, 0x01, 0x03, 24) := by decide

/-- V 45_control rows 7 and 8. -/
theorem test_ret_c :
    stepped (fun t => (t.sp, t.pc, t.cyc))
      (withByte 0xD001 0x40 (withCode [0xD8] { start with sp := 0xD000, flags := ⟨false, false, false, true⟩ })) =
      some (0xD002, 0x4000, 20) ∧
    stepped (fun t => (t.sp, t.pc, t.cyc))
      (withCode [0xD0] { start with sp := 0xD000, flags := ⟨false, false, false, true⟩ }) =
      some (0xD000, 0x0101, 8) := by decide

/-- V 45_control row 9. -/
theorem test_rst38 :
    stepped (fun t => (t.sp, t.pc, t.bus.fetchByte 0xCFFF, t.bus.fetchByte 0xCFFE, t.cyc))
      (withCode [0xFF] { start with sp := 0xD000 }) = some (0xCFFE, 0x0038, 0x01, 0x01, 16) := by decide

/-- V 46_system rows 7 and 9. -/
theorem test_fatal :
    stepped (fun t => (t.fatal, t.pc)) (withCode [0xD3] start) = some (some ⟨.decodeFailure, 0xD3, 0x0100⟩, 0x0101) ∧
    stepped (fun t => (t.fatal, t.pc)) (withCode [0x10] start) = some (some ⟨.stop, 0x10, 0x0100⟩, 0x0101) := by decide

/-- V 46_system row 5, its first two steps: HALT sets HALTBUG, and the next fetch leaves PC at the byte. -/
theorem test_halt_bug :
    stepped (fun t => (t.haltBug, t.halted, t.pc)) (withInterrupt .timer (withCode [0x76, 0x04] { start with ime := false })) =
      some (true, false, 0x0101) ∧
    stepped (fun t => (t.haltBug, t.regs.b, t.pc))
      (withCode [0x04] { start with pc := 0x0101, ime := false, haltBug := true }) = some (false, 0x01, 0x0101) := by decide

/-- V 46_system row 4, its first step: with HALT_BUG false the machine halts. -/
theorem test_halt_without_the_bug :
    stepped (fun t => (t.haltBug, t.halted))
      (withInterrupt .timer
        (withCode [0x76] { start with ime := false, cfg := { Config.default with haltBugEnabled := false } })) =
      some (false, true) := by decide

/-- §1 item 9, step by step: EI requests, DI withdraws; and the promotion before the instruction after EI. -/
theorem test_ei_di :
    stepped (fun t => (t.ime, t.pend)) (withCode [0xFB] { start with ime := false }) = some (false, true) ∧
    stepped (fun t => (t.ime, t.pend)) (withCode [0xF3] { start with ime := false, pend := true }) = some (false, false) ∧
    stepped (fun t => (t.ime, t.pend)) (withCode [0x00] { start with ime := false, pend := true }) = some (true, false) := by
  decide

/-- V 47_cb rows 1 and 9. -/
theorem test_bit :
    stepped look (withCode [0xCB, 0x47] { start with flags := ⟨false, false, false, true⟩ }) =
      some (0x00, 0xB0, 0x0102, 8) ∧
    stepped look (withByte 0x0000 0x40 (withByte 0xFFFF 0xCB { start.setReg .b 0x01 with pc := 0xFFFF })) =
      some (0x00, 0x20, 0x0001, 8) := by decide

/-- V 47_cb row 2, with `BIT_HL_TICKS` = 12, and the default 16. -/
theorem test_bit_atHl :
    stepped look (withCode [0xCB, 0x7E] { start with cfg := { Config.default with bitHlTicks := .twelve } }) =
      some (0x00, 0xA0, 0x0102, 12) ∧
    stepped look (withCode [0xCB, 0x7E] start) = some (0x00, 0xA0, 0x0102, 16) := by decide

/-- V 47_cb rows 3 to 6. -/
theorem test_cb_rotates :
    stepped (fun t => (t.regs.b, t.flags.pack))
      (withCode [0xCB, 0x30] { start.setReg .b 0x12 with flags := ⟨false, false, false, true⟩ }) = some (0x21, 0x00) ∧
    stepped (fun t => (t.regs.b, t.flags.pack)) (withCode [0xCB, 0x28] (start.setReg .b 0x80)) = some (0xC0, 0x00) ∧
    stepped (fun t => (t.regs.c, t.flags.pack))
      (withCode [0xCB, 0x11] { start.setReg .c 0x7F with flags := ⟨false, false, false, true⟩ }) = some (0xFF, 0x00) ∧
    stepped (fun t => (t.regs.c, t.flags.pack))
      (withCode [0xCB, 0x19] { start with flags := ⟨false, false, false, true⟩ }) = some (0x80, 0x00) := by decide

/-- V 47_cb rows 7 and 8. -/
theorem test_res_set :
    stepped (fun t => (t.bus.fetchByte 0xC000, t.flags.pack, t.cyc))
      (withByte 0xC000 0xFF (withCode [0xCB, 0x86] { start.setPair .hl 0xC000 with flags := ⟨true, true, true, true⟩ })) =
      some (0xFE, 0xF0, 16) ∧
    stepped (fun t => (t.regs.h, t.cyc)) (withCode [0xCB, 0xFC] start) = some (0x80, 8) := by decide

/-- V 60_exceptions rows 1 and 2: 32 ticks, and 20 with `INT_EXTRA_DELAY_M` = 3. -/
theorem test_interrupt_entry :
    stepped (fun t => (t.pc, t.sp, t.ime, t.bus.fetchByte 0xCFFF, t.bus.fetchByte 0xCFFE, t.cyc))
      (withInterrupt .vblank { start with sp := 0xD000 }) = some (0x0040, 0xCFFE, false, 0x01, 0x00, 32) ∧
    stepped (fun t => (t.pc, t.bus.nextInterrupt, t.cyc))
      (withInterrupt .joypad { start with sp := 0xD000, cfg := { Config.default with intExtraDelayM := 3 } }) =
      some (0x0060, none, 20) := by decide

/-- V 60_exceptions row 5: the halted step wakes without servicing and runs the next instruction. -/
theorem test_halted_step_wakes :
    stepped (fun t => (t.regs.a, t.halted, t.cyc))
      (withInterrupt .timer (withCode [0x3C] { start with ime := false, halted := true })) = some (0x01, false, 8) := by
  decide

/-- V 60_exceptions rows 6 and 7: the halted step idles for `HALT_IDLE_TICKS`. -/
theorem test_halted_step_idles :
    stepped (fun t => (t.regs.a, t.halted, t.cyc)) (withCode [0x3C] { start with ime := false, halted := true }) =
      some (0x00, true, 4) ∧
    stepped (fun t => (t.regs.a, t.halted, t.cyc))
      (withCode [0x3C] { start with ime := false, halted := true, cfg := { Config.default with haltIdleTicks := 1 } }) =
      some (0x00, true, 1) := by decide

/-- RETI sets IME at once (rule R171). -/
theorem test_reti :
    stepped (fun t => (t.pc, t.sp, t.ime, t.pend, t.cyc))
      (withByte 0xD001 0x01 (withByte 0xD000 0x05 (withCode [0xD9] { start with sp := 0xD000, ime := false }))) =
      some (0x0105, 0xD002, true, false, 16) := by decide

/-- A word placed by `withFetchWord` is what the next step runs. -/
theorem test_withFetchWord :
    stepped look (State.reset.withFetchWord 8 0x3C) = some (0x01, 0x00, 0x0001, 4) ∧
    stepped look (State.reset.withFetchWord 16 0xCBFF) = some (0x80, 0x00, 0x0002, 8) := by decide

/-- Memory keeps its canonical form: the last store takes the entry out again. -/
theorem test_memory_canonical :
    (Memory.write (Memory.write (Memory.write [] 5 0x01) 3 0x02) 5 0x00) = [(3, 0x02)] := by decide

/-! ## Buses (rules R8, R39 to R45; what each bus does is written out here) -/

/-- A bus with read-only memory below 0x8000 ("nothing for ROM", rule R41), a device register at 0xFF00 that a read clears,
a store to 0xFF46 that copies its byte to 0xFE00, a counter at 0xFF04 that a tick moves and that raises TIMER at 8, and the
bus's mask at 0xFFFF, bit 2 for TIMER (rule R204's last column). -/
def console : BusModel where
  answer := .cond (.eq .addr (.lit 0xFF00)) (.reg (.lit 0))
    (.cond (.eq .addr (.lit 0xFF04)) (.reg (.lit 1)) (.byte .addr))
  onFetch := [⟨.eq .addr (.lit 0xFF00), [.put (.lit 0) (.lit 0)]⟩]
  onStore := [
    ⟨.lt (.lit 0x7FFF) .addr, [.poke .addr .val]⟩,
    ⟨.eq .addr (.lit 0xFF46), [.poke (.lit 0xFE00) .val]⟩,
    ⟨.and (.eq .addr (.lit 0xFFFF)) (.eq (.mod (.div .val (.lit 4)) (.lit 2)) (.lit 1)), [.enable .timer]⟩]
  onStep := [⟨.lit 1, [.put (.lit 1) (.mod (.add (.reg (.lit 1)) (.lit 1)) (.lit 8))]⟩]
  raises := [(.eq (.reg (.lit 1)) (.lit 0), .timer)]

/-- A state on that bus: register 0 holds 0x5A, the counter 0. -/
def onConsole (s : State) : State := { s with bus := { s.bus with model := console, regs := [0x5A, 0] } }

/-- A store to read-only memory changes nothing; one to 0xFF46 also copies. -/
theorem test_bus_stores :
    stepped (fun t => t.bus.fetchByte 0x0200)
      (onConsole (withCode [0x77] ((start.setPair .hl 0x0200).setReg .a 0x99))) = some 0x00 ∧
    stepped (fun t => (t.bus.fetchByte 0xFE00, t.bus.fetchByte 0xFF46))
      (onConsole (withCode [0x77] ((start.setPair .hl 0xFF46).setReg .a 0x99))) = some (0x99, 0x99) := by decide

/-- INC (HL) at the register that a read clears: 0x5A is read, the register is then 0 (rule R228). -/
theorem test_bus_read_side_effect :
    stepped (fun t => (t.regs.a, t.bus.fetchByte 0xFF00)) (onConsole (withCode [0x7E] (start.setPair .hl 0xFF00))) =
      some (0x5A, 0x00) := by decide

/-- Eight ticks raise TIMER: the two M-cycles of LD (HL),A raise it, and its store enabled it. -/
theorem test_bus_timer :
    stepped (fun t => (t.bus.pending.has .timer, t.bus.nextInterrupt, t.bus.fetchByte 0xFF04))
      (onConsole (withCode [0x77] ((start.setPair .hl 0xFFFF).setReg .a 0x04))) = some (true, some .timer, 0x00) ∧
    stepped (fun t => (t.bus.pending.has .timer, t.bus.fetchByte 0xFF04)) (onConsole (withCode [0x00] start)) =
      some (false, 0x04) := by decide

/-! ## Witnesses of the statements' hypotheses -/

theorem witness_EveryInstructionDecodesFromItsEncoding : (Instr.ldHlNn 0xFFFF).wellFormed = true := rfl

theorem witness_EveryDecodedInstructionEncodesBack : decode [0x21, 0x00, 0xC0, 0x76] = .ok (.ldHlNn 0xC000, [0x76]) := rfl

theorem witness_StepRunsTheDecodedInstruction :
    let s := withCode [0xCD, 0x00, 0x30] { start with ime := false, pend := true }
    s.fatal = none ∧ s.halted = false ∧ s.haltBug = false ∧ s.noInterrupt ∧
      decode (fetchedBytes s.bus s.pc 3) = .ok (.callNn 0x3000, []) := by
  refine ⟨rfl, rfl, rfl, (fun h => nomatch h), rfl⟩

theorem witness_HaltBugFetchReadsTheByteTwice :
    let s := withCode [0x06] { start with ime := false, haltBug := true }
    s.fatal = none ∧ s.halted = false ∧ s.haltBug = true ∧ s.noInterrupt ∧
      decode (s.bus.fetchByte s.pc ::
        fetchedBytes (s.bus.replay (readOps s.pc (s.bus.fetchByte s.pc))) s.pc 2) = .ok (.ldBN 0x06, [0x00]) := by
  refine ⟨rfl, rfl, rfl, (fun h => nomatch h), rfl⟩

theorem witness_ResetIsTheColdBootState :
    Config.default.bootSkip = false ∧ { Config.default with bitHlTicks := .twelve }.bootSkip = false := ⟨rfl, rfl⟩

theorem witness_BootSkipResetIsThePostBootState : { Config.default with bootSkip := true }.bootSkip = true := rfl

theorem witness_InterruptEntryPushesPcAndGoesToTheVector :
    let s := withInterrupt .joypad { start with halted := true }
    (s.fatal = none ∧ s.ime = true ∧ s.bus.nextInterrupt = some .joypad) ∧ s.inv := by
  refine ⟨by decide, by decide, by decide, (fun h => nomatch h), by decide⟩

theorem witness_InterruptsHaveFixedVectorsAndStrictPriority :
    let b (p : IntSet) : Bus := { Bus.reset with pending := p, enabled := ⟨true, true, true, true, true⟩ }
    (b ⟨true, true, true, true, true⟩).nextInterrupt = some .vblank ∧
    (b ⟨false, true, true, true, true⟩).nextInterrupt = some .lcdstat ∧
    (b ⟨false, false, true, true, true⟩).nextInterrupt = some .timer ∧
    (b ⟨false, false, false, true, true⟩).nextInterrupt = some .serial ∧
    (b ⟨false, false, false, false, true⟩).nextInterrupt = some .joypad ∧
    (b ⟨false, false, false, false, false⟩).nextInterrupt = none := by decide

/-- A bus with nothing reported and one with an interrupt; a step that acknowledges one, one that acknowledges none, and one
that does not ask. -/
theorem witness_AcknowledgeIsCalledOnceAndOnlyWithIme :
    let s := withInterrupt .serial start
    start.bus.nextInterrupt = none ∧ s.bus.nextInterrupt = some .serial ∧
    (s.ime = true ∧ ∃ t, step s = .next t ∧ t.trace.head? = some (.nextInterruptAck (some .serial))) ∧
    (start.ime = true ∧ ∃ t, step start = .next t ∧ t.trace.head? = some (.nextInterruptAck none)) ∧
    ∃ t, step { s with ime := false } = .next t ∧ t.trace.head? = some (.fetchByte 0x0100 0x00) := by
  refine ⟨by decide, by decide, ⟨rfl, _, rfl, by decide⟩, ⟨rfl, _, rfl, by decide⟩, _, rfl, by decide⟩

theorem witness_HaltedStepIdlesOrWakes :
    let h : State := { start with halted := true }
    let h' : State := { start with halted := true, ime := false }
    let h'' := withInterrupt .timer h'
    (h.fatal = none ∧ h.halted = true ∧ h.opened.ime = true ∧ h.bus.nextInterrupt = none) ∧
    (h'.fatal = none ∧ h'.halted = true ∧ h'.opened.ime = false ∧
      (h'.opened.bus.replay (tickOps h'.cfg.haltIdleTicks)).nextInterrupt = none) ∧
    (h''.fatal = none ∧ h''.halted = true ∧ h''.opened.ime = false ∧
      (h''.opened.bus.replay (tickOps h''.cfg.haltIdleTicks)).nextInterrupt = some .timer) := by decide

theorem witness_FatalOutcomesComeFromIllegalBytesAndStopAlone :
    let s (op : Byte) : State := withCode [op] { start with ime := false }
    { start with fatal := some ⟨.stop, 0x10, 0x0100⟩ }.fatal = some ⟨.stop, 0x10, 0x0100⟩ ∧
    (start.fatal = none ∧ ∃ t, beforeFetch (withInterrupt .timer start) = .finished t) ∧
    (∃ t, beforeFetch { start with halted := true } = .finished t) ∧
    ((s 0xD3).fatal = none ∧ beforeFetch (s 0xD3) = .fetching (s 0xD3).opened ∧
      (s 0xD3).opened.bus.fetchByte 0x0100 = 0xD3) ∧
    ((s 0x10).fatal = none ∧ beforeFetch (s 0x10) = .fetching (s 0x10).opened ∧
      (s 0x10).opened.bus.fetchByte 0x0100 = 0x10) ∧
    ((s 0x11).fatal = none ∧ beforeFetch (s 0x11) = .fetching (s 0x11).opened ∧
      (s 0x11).opened.bus.fetchByte 0x0100 = 0x11) := by
  refine ⟨rfl, ⟨rfl, _, rfl⟩, ⟨_, rfl⟩, ⟨rfl, rfl, rfl⟩, ⟨rfl, rfl, rfl⟩, ⟨rfl, rfl, rfl⟩⟩

theorem witness_NopDiAndEi : start.ime = true ∧ { start with ime := false }.ime = false := by decide

theorem witness_HaltHaltsOrSetsTheHaltBug :
    let s : State := { start with ime := false }
    let off : State := { s with cfg := { Config.default with haltBugEnabled := false } }
    start.ime = true ∧ off.cfg.haltBugEnabled = false ∧
    (s.ime = false ∧ s.cfg.haltBugEnabled = true ∧ s.bus.nextInterrupt = none) ∧
    (s.ime = false ∧ s.cfg.haltBugEnabled = true ∧ (withInterrupt .vblank s).bus.nextInterrupt = some .vblank) := by
  decide

theorem witness_PushThenPopGivesTheValueBack :
    let s : State := { start.setPair .bc 0xBEEF with sp := 0x0001 }
    s.bus.quiet = true ∧
      ∃ t u : State, exec (.ofPush .bc) s = .next t ∧ exec (.ofPop .af) t = .next u ∧ u.sp = 0x0001 := by
  refine ⟨rfl, _, _, rfl, rfl, by decide⟩

/-- For `AbsoluteJumps`, `RelativeJumps`, `CallsAndRestartsPushTheReturnAddress` and `ReturnsPopPc`: every condition holds in
some state and fails in another. -/
theorem witness_conditions :
    let set : State := { start with flags := ⟨true, false, false, true⟩ }
    start.cond .nz = true ∧ start.cond .nc = true ∧ start.cond .z = false ∧ start.cond .c = false ∧
    set.cond .nz = false ∧ set.cond .nc = false ∧ set.cond .z = true ∧ set.cond .c = true := by decide

theorem witness_BitTestsABitAndWritesOnlyFlags :
    start.cfg.bitHlTicks = .sixteen ∧
    { start with cfg := { Config.default with bitHlTicks := .twelve } }.cfg.bitHlTicks = .twelve := by decide

theorem witness_ResAndSetChangeOneBitAndNoFlag :
    resBit 7 0xFF = 0x7F ∧ resBit 0 0xFF = 0xFE ∧ setBit 7 0x00 = 0x80 ∧ setBit 0 0x00 = 0x01 := by decide

/-- For the statements about every step that gives a next state: one from a state with HALTBUG set that meets the
invariant. -/
theorem witness_EveryStepKeepsTheInvariant :
    let s := withCode [0x04] { start with ime := false, haltBug := true }
    s.inv ∧ s.cfg = .default ∧ s.noInterrupt ∧ s.fatal = none ∧ ∃ t, step s = .next t ∧ t.cyc = 4 := by
  refine ⟨⟨by decide, by decide, fun _ => by decide, by decide⟩, rfl, (fun h => nomatch h), rfl, _, rfl, by decide⟩

theorem witness_MemoryChangesOnlyAtTheAddressesStoredTo :
    let s : State := { start.setPair .hl 0xFFFF with sp := 0x0001 }
    s.bus.quiet = true ∧ (∃ t, exec .ldAtHlA s = .next t) ∧ storedAddrs .ldAtHlA s = [0xFFFF] ∧
    storedAddrs .pushBc s = [0x0000, 0xFFFF] ∧ storedAddrs .addB s = [] ∧ storedAddrs .set0AtHl s = [0xFFFF] ∧
    storedAddrs .bit0AtHl s = [] ∧ storedAddrs (.callCNn 0x2000) s = [] := by
  refine ⟨rfl, ⟨_, rfl⟩, rfl, rfl, rfl, rfl, rfl, rfl⟩

theorem witness_FlagsFollowTheTable :
    Instr.daa.wellFormed = true ∧ (∃ t, exec .daa start = .next t) ∧
    flagRow .daa = ⟨.computed, .kept, .forced false, .computed⟩ ∧
    (start.ime = true ∧ (withInterrupt .joypad start).bus.nextInterrupt = some .joypad ∧
      ∃ t, step (withInterrupt .joypad start) = .next t) := by
  refine ⟨rfl, ⟨_, rfl⟩, rfl, rfl, by decide, _, rfl⟩

theorem witness_OnlyStackInstructionsWriteSp :
    (encode .rlcB).head? = some 0xCB ∧ writesSp 0xCB = false ∧ (∃ t, exec .rlcB start = .next t) ∧
    writesSp 0x39 = false ∧ writesSp 0x33 = true := by
  refine ⟨rfl, by decide, ⟨_, rfl⟩, by decide, by decide⟩

theorem witness_EnableLatencyMachine :
    let off : State := { start with ime := false }
    let asked : State := { start with ime := false, pend := true }
    ((∃ t, exec .ei off = .next t) ∧ (off.ime, off.pend) = (false, false)) ∧
    ((∃ t, exec .ei asked = .next t) ∧ (asked.ime, asked.pend) = (false, true)) ∧
    ((∃ t, exec .ei start = .next t) ∧ (start.ime, start.pend) = (true, false)) ∧
    (∃ t, exec .di asked = .next t) ∧ (∃ t, exec .reti off = .next t) ∧ (∃ t, exec .halt start = .next t) ∧
    (∃ t, step (withInterrupt .lcdstat start) = .next t) ∧
    (asked.noInterrupt ∧ ∃ u, beforeFetch asked = .fetching u) ∧
    (start.noInterrupt ∧ (start.ime, start.pend) ≠ (false, true) ∧ ∃ u, beforeFetch start = .fetching u) ∧
    (∃ u, beforeFetch { asked with halted := true } = .finished u) ∧
    (off.ime = false ∧ ∃ t, step off = .next t) := by
  refine ⟨⟨⟨_, rfl⟩, rfl⟩, ⟨⟨_, rfl⟩, rfl⟩, ⟨⟨_, rfl⟩, rfl⟩, ⟨_, rfl⟩, ⟨_, rfl⟩, ⟨_, rfl⟩, ⟨_, rfl⟩,
    ⟨(fun h => nomatch h), _, rfl⟩, ⟨(fun _ => rfl), by decide, _, rfl⟩, ⟨_, rfl⟩, rfl, _, rfl⟩

theorem witness_EveryStepTakesTheTicksOfTheTable :
    let idle : State := { start with halted := true }
    let wakes := withInterrupt .timer { start with ime := false, halted := true }
    (start.fatal = none ∧ start.cfg = .default) ∧
    ((withInterrupt .timer start).bus.nextInterrupt = some .timer ∧ ∃ t, step (withInterrupt .timer start) = .next t) ∧
    (idle.bus.nextInterrupt = none ∧ ∃ v, beforeFetch idle = .finished v ∧ step idle = .next v) ∧
    ((∃ u, beforeFetch wakes = .fetching u) ∧ wakes.cfg = .default ∧ ∃ t, step wakes = .next t) := by
  refine ⟨⟨rfl, rfl⟩, ⟨by decide, _, rfl⟩, ⟨by decide, _, rfl, rfl⟩, ⟨_, rfl⟩, rfl, _, rfl⟩

/-- A condition that a step acknowledges, one that a tick raises, and one that stays pending. -/
theorem witness_ConditionsAreRaisedByTicksAndClearedByTheAcknowledge :
    let s := withInterrupt .serial start
    (s.bus.pending.has .serial = true ∧ ∃ t, step s = .next t ∧ t.bus.pending.has .serial = false) ∧
    (let b : Bus := { Bus.reset with inbox := [[.raise .joypad]] }
     b.pending.has .joypad = false ∧ (b.perform .step).pending.has .joypad = true) ∧
    ∃ t, step { s with ime := false } = .next t ∧ t.bus.pending.has .serial = true := by
  refine ⟨⟨by decide, _, rfl, by decide⟩, by decide, _, rfl, by decide⟩

/-- Reset on any bus, and a memory in canonical form. -/
theorem witness_ResetMeetsTheInvariant : ({ Bus.reset with mem := [(0xC000, 0x01)] } : Bus).mem.wf = true := by decide

end Sys2Proof.Tests
end

section
/-! SUPPORT. What a whole step does to the bus: exactly the operations on the step's record, their ticks counted, with the
parameters kept; and the obligations that follow from it. -/

namespace Sys2Proof.Machine

/-! ## The record of a step -/

/-- `t` stands in a step that began at `s`: its bus is that of `s` after the operations recorded so far, `cyc` counts their
ticks, and the parameters are those of `s` (rules R8, R33, R39; log 7). -/
def State.RecordsFrom (s t : State) : Prop :=
  t.bus = s.bus.replay t.trace ∧ t.cyc = ticksIn t.trace ∧ t.cfg = s.cfg

theorem State.RecordsFrom.follows {s t u : State} (h : s.RecordsFrom t) (k : t.Follows u) : s.RecordsFrom u := by
  obtain ⟨hbus, hcyc, hcfg⟩ := h
  obtain ⟨ops, kbus, kcyc, ktrace, kcfg, -⟩ := k
  exact ⟨by simp [*], by simp [*], kcfg.trans hcfg⟩

theorem recordsFrom_beginStep (s : State) : s.RecordsFrom (beginStep s) := ⟨rfl, rfl, rfl⟩

/-- Without an interrupt to enter, the acknowledge that opens a step with IME set leaves the bus as it is (rule R44). -/
theorem recordsFrom_opened {s : State} (h : s.noInterrupt) : s.RecordsFrom s.opened := by
  cases hi : s.ime with
  | false => simp [State.RecordsFrom, hi]
  | true => simp [State.RecordsFrom, hi, replay_cons, Bus.perform, acknowledge_none _ (h hi)]

theorem recordsFrom_interruptEntry (s : State) (it : IntSource) :
    s.RecordsFrom (interruptEntry it ((beginStep s).onBus [.nextInterruptAck (some it)])) := by
  simp [State.RecordsFrom, replay_cons]

/-- The part of a step before its fetch: the interrupt entry, or the halted step from `State.opened` (rule R73). -/
theorem recordsFrom_beforeFetch (s : State) : s.RecordsFrom (beforeFetch s).state := by
  by_cases h : s.noInterrupt
  · rw [beforeFetch_opened s h]
    exact (recordsFrom_opened h).follows (haltPhase_follows _)
  · obtain ⟨hi, hn⟩ := Classical.not_imp.mp h
    obtain ⟨it, hit⟩ := Option.ne_none_iff_exists'.mp hn
    rw [beforeFetch_interrupt s it hi hit]
    exact recordsFrom_interruptEntry s it

/-- A step gives its bus and its count by its own record, and keeps the parameters. -/
theorem step_recordsFrom {s t : State} (h : step s = .next t) : s.RecordsFrom t := by
  have hb := recordsFrom_beforeFetch s
  obtain ⟨-, hfin | ⟨u, hfetch, hexec⟩⟩ := step_cases h
  · rwa [hfin] at hb
  · rw [hfetch] at hb
    exact hb.follows (fetchExecute_follows hexec)

/-! ## Obligations -/

/-- Settles O53: a step changes the bus by operations alone, and no operation changes the bus's model. -/
theorem noStepChangesAParameter : Obligations.NoStepChangesAParameter := by
  intro s t h
  obtain ⟨hbus, -, hcfg⟩ := step_recordsFrom h
  exact ⟨hcfg, by rw [hbus, model_replay]⟩

end Sys2Proof.Machine
end

section
/-! SUPPORT. What one instruction can do beside its registers: the closed forms of the conditional operations, the fetch of
a whole instruction, and which instructions write FATAL. -/

namespace Sys2Proof.Machine

/-! ## Closed forms of the operations with a condition -/

@[simp] theorem jumpIf_eq (cc : Cond) (target : Word) (s : State) :
    jumpIf cc target s =
      State.onBus (if s.cond cc then tickOps 4 else []) { s with pc := if s.cond cc then target else s.pc } := by
  cases h : s.cond cc <;> simp [jumpIf, h]

@[simp] theorem callIf_eq (cc : Cond) (target : Word) (s : State) :
    callIf cc target s =
      State.onBus
        (if s.cond cc then
          tickOps 4 ++ writeOps (s.sp - 1) (hiByte s.pc) ++ writeOps (s.sp - 2) (loByte s.pc) else [])
        { s with sp := if s.cond cc then s.sp - 2 else s.sp, pc := if s.cond cc then target else s.pc } := by
  cases h : s.cond cc <;> simp [callIf, h]

/-- The operations of a return: the two reads of PC and an internal M-cycle (rule R169). -/
def returnOps (s : State) : List BusOp :=
  readOps s.sp (s.bus.fetchByte s.sp) ++
    readOps (s.sp + 1) ((s.bus.replay (readOps s.sp (s.bus.fetchByte s.sp))).fetchByte (s.sp + 1)) ++ tickOps 4

@[simp] theorem ticksIn_returnOps (s : State) : ticksIn (returnOps s) = 12 := by simp [returnOps]

@[simp] theorem returnIf_eq (cc : Cond) (s : State) :
    returnIf cc s =
      State.onBus (tickOps 4 ++ if s.cond cc then returnOps (s.onBus (tickOps 4)) else [])
        { s with
          sp := if s.cond cc then s.sp + 2 else s.sp
          pc := if s.cond cc then (pop16 (s.onBus (tickOps 4))).1 else s.pc } := by
  cases h : s.cond cc
  · simp [returnIf_notTaken cc s h]
  · apply State.ext <;> simp [returnIf_taken cc s h, returnOps, Nat.add_assoc]

@[simp] theorem bitMem_eq (b : Fin 8) (s : State) :
    bitMem b s =
      State.onBus
        (readOps s.hl (s.bus.fetchByte s.hl) ++ if s.cfg.bitHlTicks = .sixteen then tickOps 4 else [])
        { s with flags := bitFlags b (s.bus.fetchByte s.hl) s.flags } := by
  cases h : s.cfg.bitHlTicks
  · simp [bitMem_twelve b s h]
  · simp [bitMem_sixteen b s h]

@[simp] theorem ei_eq (s : State) : ei s = { s with pend := s.pend || !s.ime } := by
  apply State.ext <;> cases h : s.ime <;> simp [ei, h]

/-- Where HALT sets HALTBUG in place of HALTED (rule R175). -/
def State.hitsHaltBug (s : State) : Bool := s.cfg.haltBugEnabled && !s.ime && s.bus.nextInterrupt.isSome

@[simp] theorem halt_eq (s : State) :
    halt s =
      State.onBus (if s.cfg.haltBugEnabled && !s.ime then [.nextInterrupt s.bus.nextInterrupt] else [])
        { s with halted := s.halted || !s.hitsHaltBug, haltBug := s.haltBug || s.hitsHaltBug } := by
  unfold State.hitsHaltBug
  cases hp : s.cfg.haltBugEnabled && !s.ime
  · simp [halt, hp]
  · cases hn : s.bus.nextInterrupt <;> simp [halt, hp, hn] <;> rfl

/-! ## The store that moves HL down -/

/-- The store of A at HL that moves HL down (rule R107). The moved HL has a name of its own: with the sum in its place, a
check of any other field would have the kernel compute it. -/
theorem exec_ldAtHlDecA_next {s t : State} (ht : exec .ldAtHlDecA s = .next t) :
    ∃ hl, hl = s.hl + -1 ∧ t = (s.setPair .hl hl).onBus (writeOps s.hl s.regs.a) := by
  rw [exec_ldAtHlDecA, write8_eq, moveHl_eq, setPair_onBus, Host.Outcome.next.injEq] at ht
  exact ⟨_, rfl, ht.symm⟩

/-! ## The fetch of a whole instruction -/

/-- `t` follows `s` by the fetches of `n` bytes, the first of them an opcode: each costs four ticks, and beside the bus they
touch PC, the opcode's address and HALTBUG alone (rules R81 to R83). -/
def State.Fetched (s : State) (n : Nat) (t : State) : Prop :=
  ∃ pc ops, t = State.onBus ops { s with haltBug := false, pc := pc, opaddr := s.pc } ∧ ticksIn ops = 4 * n

/-- The opcode fetch moves PC or clears HALTBUG, so HALTBUG is clear after it either way (rule R82). -/
theorem fetchOpcode_fetched (s : State) : s.Fetched 1 (fetchOpcode s).2 := by
  cases h : s.haltBug
  · exact ⟨s.pc + 1, _, by rw [fetchOpcode_snd s h, ← h], ticksIn_readOps _ _⟩
  · exact ⟨s.pc, _, by rw [fetchOpcode_snd_haltBug s h], ticksIn_readOps _ _⟩

theorem State.Fetched.fetch8 {s t : State} {n : Nat} (h : s.Fetched n t) : s.Fetched (n + 1) (fetch8 t).2 := by
  obtain ⟨pc, ops, rfl, hops⟩ := h
  rw [fetch8_snd]
  exact ⟨pc + 1, ops ++ readOps pc ((s.bus.replay ops).fetchByte pc), by simp [State.onBus, Nat.add_assoc],
    by simp [hops, Nat.mul_add]⟩

/-- An instruction's fetches get one byte each of its encoding (rule R58). -/
theorem fetchInstr_fetched (s : State) : s.Fetched (encode (fetchInstr s).1).length (fetchInstr s).2 := by
  have hop := fetchOpcode_fetched s
  have hform := decodeOp_form (s.bus.fetchByte s.pc)
  simp only [fetchInstr, fetchOpcode_fst]
  generalize decodeOp (s.bus.fetchByte s.pc) = form at hform
  cases hform with
  | plain i he _ =>
    dsimp only
    rw [he]
    exact hop
  | imm8 f he _ =>
    dsimp only
    rw [he]
    exact hop.fetch8
  | imm16 f he _ =>
    dsimp only
    rw [he]
    exact hop.fetch8.fetch8
  | escape _ => exact hop

/-- The encoding of the instruction fetched begins with the byte at PC and has at most three bytes (rule R58). -/
theorem encode_fetchInstr (s : State) :
    (encode (fetchInstr s).1).head? = some (s.bus.fetchByte s.pc) ∧ (encode (fetchInstr s).1).length ≤ 3 := by
  have hform := decodeOp_form (s.bus.fetchByte s.pc)
  simp only [fetchInstr, fetchOpcode_fst]
  generalize decodeOp (s.bus.fetchByte s.pc) = form at hform
  cases hform with
  | plain i he _ => simp [he]
  | imm8 f he _ => simp [he]
  | imm16 f he _ => simp [he]
  | escape he => exact ⟨congrArg some he.symm, Nat.one_le_ofNat⟩

/-! ## Every instruction, by its rows -/

/-- Every instruction completes. -/
theorem exec_completes (i : Instr) (s : State) : ∃ t, exec i s = .next t := by
  have row : ∀ (j : Instr) (u : State), j.wellFormed = true → ∃ t, exec j u = .next t := by
    intro j u h
    induction j using Instr.byForm with
    | prefixCb => exact absurd h (by decide)
    | _ => simp
  cases h : i.wellFormed with
  | true => exact row i s h
  | false =>
    obtain rfl := Instr.eq_prefixCb_of_not_wellFormed i h
    rw [exec_prefixCb]
    exact row _ _ (wellFormed_decodeCb _)

/-- What each row does, and the escape does when it has fetched the row it runs, every instruction does (rule R178). -/
theorem exec_byRow {motive : ∀ (i : Instr) (s t : State), exec i s = .next t → Prop}
    (row : ∀ (i : Instr) (s t : State) (ht : exec i s = .next t), i.wellFormed = true → motive i s t ht)
    (escape : ∀ (i : Instr) (cbop : Byte) (s t : State) (ht : exec .prefixCb s = .next t)
      (hrow : exec i (State.onBus (readOps s.pc cbop) { s with pc := s.pc + 1 }) = .next t), encode i = [0xCB, cbop] →
      motive i _ t hrow → motive .prefixCb s t ht)
    (i : Instr) (s t : State) (ht : exec i s = .next t) : motive i s t ht := by
  cases h : i.wellFormed with
  | true => exact row i s t ht h
  | false =>
    obtain rfl := Instr.eq_prefixCb_of_not_wellFormed i h
    have hrow := ht
    rw [exec_prefixCb, fetch8_snd] at hrow
    exact escape _ _ s t ht hrow (encode_decodeCb _) (row _ _ t hrow (wellFormed_decodeCb _))

/-! ## Who writes FATAL -/

/-- The 11 bytes the opcode map leaves illegal (rule R70). -/
def illegalBytes : List Byte := [0xD3, 0xDB, 0xDD, 0xE3, 0xE4, 0xEB, 0xEC, 0xED, 0xF4, 0xFC, 0xFD]

/-- An instruction that is neither illegal nor STOP leaves FATAL as it is (rules R32, R213). -/
theorem exec_fatal_kept (i : Instr) (s t : State) (ht : exec i s = .next t) (op : Byte) (ho : (encode i).head? = some op)
    (hn : op ∉ 0x10 :: illegalBytes) : t.fatal = s.fatal := by
  induction i, s, t, ht using exec_byRow generalizing op with
  | row i s t ht h =>
    induction i using Instr.byForm with
    | prefixCb => exact absurd h (by decide)
    | stop | illegalD3 | illegalDB | illegalDD | illegalE3 | illegalE4 | illegalEB | illegalEC | illegalED | illegalF4
    | illegalFC | illegalFD =>
      cases ho
      exact absurd (by decide) hn
    | ldAtHlDecA =>
      obtain ⟨hl, -, rfl⟩ := exec_ldAtHlDecA_next ht
      simp
    | _ =>
      simp at ht
      simp [← ht]
  | escape i cbop s t ht hrow he ih => exact ih 0xCB (by simp [he]) (by decide)

end Sys2Proof.Machine
end

section
/-! SUPPORT. The invariant of the machine, step by step and at reset; and the fatal outcomes. -/

namespace Sys2Proof.Machine

/-! ## The phases of a step -/

/-- The halted step: it is over after its ticks, or goes on to the fetch with the core running; a core that runs goes on at
once (rule R75). -/
theorem haltPhase_cases (s : State) :
    (s.halted = true ∧ ∃ ops, haltPhase s = .finished (s.onBus ops) ∧ ticksIn ops = s.cfg.haltIdleTicks) ∨
    ∃ ops, haltPhase s = .fetching (State.onBus ops { s with halted := false }) ∧
      ticksIn ops = if s.halted then s.cfg.haltIdleTicks else 0 := by
  cases hh : s.halted with
  | false => exact .inr ⟨[], by simp [haltPhase_running s hh, ← hh], rfl⟩
  | true =>
    by_cases hn : s.ime = true ∨ (s.bus.replay (tickOps s.cfg.haltIdleTicks)).nextInterrupt = none
    · exact .inl ⟨rfl, _, haltPhase_stays s hh hn, by simp⟩
    · obtain ⟨hi, hn⟩ := not_or.mp hn
      obtain ⟨it, hit⟩ := Option.ne_none_iff_exists'.mp hn
      exact .inr ⟨_, haltPhase_wake s it hh (Bool.not_eq_true _ ▸ hi) hit, by simp⟩

/-- Before its fetch a step enters an interrupt, stays halted, or goes on to the fetch with the core running (rules R73 to
R75). -/
theorem beforeFetch_cases (s : State) :
    (∃ it, s.ime = true ∧ s.bus.nextInterrupt = some it ∧
      beforeFetch s = .finished (interruptEntry it ((beginStep s).onBus [.nextInterruptAck (some it)]))) ∨
    (s.noInterrupt ∧ s.halted = true ∧ ∃ ops,
      beforeFetch s = .finished (s.opened.onBus ops) ∧ ticksIn ops = s.cfg.haltIdleTicks) ∨
    (s.noInterrupt ∧ ∃ ops,
      beforeFetch s = .fetching (State.onBus ops { s.opened with halted := false }) ∧
        ticksIn ops = if s.halted then s.cfg.haltIdleTicks else 0) := by
  by_cases hn : s.noInterrupt
  · rw [beforeFetch_opened s hn]
    obtain ⟨hh, hfin⟩ | hfetch := haltPhase_cases s.opened
    · exact .inr (.inl ⟨hn, hh, hfin⟩)
    · exact .inr (.inr ⟨hn, hfetch⟩)
  · obtain ⟨hi, hn⟩ := Classical.not_imp.mp hn
    obtain ⟨it, hit⟩ := Option.ne_none_iff_exists'.mp hn
    exact .inl ⟨it, hi, hit, beforeFetch_interrupt s it hi hit⟩

/-- The ways a step can go: it enters an interrupt; it stays halted; or it fetches and executes an instruction, with the core
running (rules R73 to R75). -/
theorem step_ways {s t : State} (h : step s = .next t) :
    (∃ it, s.ime = true ∧ s.bus.nextInterrupt = some it ∧
      t = interruptEntry it ((beginStep s).onBus [.nextInterruptAck (some it)])) ∨
    (s.noInterrupt ∧ s.halted = true ∧ ∃ ops, t = s.opened.onBus ops ∧ ticksIn ops = s.cfg.haltIdleTicks) ∨
    (s.noInterrupt ∧ ∃ ops, fetchExecute (State.onBus ops { s.opened with halted := false }) = .next t ∧
      ticksIn ops = if s.halted then s.cfg.haltIdleTicks else 0) := by
  obtain ⟨hf, -⟩ := step_cases h
  obtain ⟨it, hi, hit, hb⟩ | ⟨hn, hh, ops, hb, hops⟩ | ⟨hn, ops, hb, hops⟩ := beforeFetch_cases s
  · rw [step_finished s _ hf hb] at h
    cases h
    exact .inl ⟨it, hi, hit, rfl⟩
  · rw [step_finished s _ hf hb] at h
    cases h
    exact .inr (.inl ⟨hn, hh, ops, rfl, hops⟩)
  · rw [step_fetching s _ hf hb] at h
    exact .inr (.inr ⟨hn, ops, h, hops⟩)

/-! ## The invariant -/

/-- The part of the invariant about IME, PEND, HALTED and HALTBUG (rules R29, R31). -/
def State.modeInv (s : State) : Prop :=
  ¬(s.ime = true ∧ s.pend = true) ∧
  (s.haltBug = true → s.cfg.haltBugEnabled = true ∧ s.ime = false ∧ s.pend = false ∧ s.halted = false)

theorem inv_iff (s : State) : s.inv ↔ s.bus.mem.wf = true ∧ s.modeInv ∧ s.cyc = ticksIn s.trace := by
  simp only [State.inv, State.modeInv, and_assoc]

/-- An instruction run with the core running, HALTBUG clear and no enable pending establishes the invariant's part about
IME, PEND, HALTED and HALTBUG: HALT may set HALTBUG, EI may set PEND, and never both (rules R175 to R177). -/
theorem exec_modeInv (i : Instr) (s t : State) (ht : exec i s = .next t) (hp : s.pend = false) (hh : s.halted = false)
    (hb : s.haltBug = false) : t.modeInv := by
  induction i, s, t, ht using exec_byRow with
  | row i s t ht h =>
    induction i using Instr.byForm with
    | prefixCb => exact absurd h (by decide)
    | halt =>
      simp at ht
      simp +contextual [← ht, State.modeInv, hp, hh, hb, State.hitsHaltBug]
    | ei =>
      simp at ht
      simp [← ht, State.modeInv, hp, hb]
    | ldAtHlDecA =>
      obtain ⟨hl, -, rfl⟩ := exec_ldAtHlDecA_next ht
      simp [State.modeInv, hp, hb]
    | _ =>
      simp at ht
      simp [← ht, State.modeInv, hp, hb]
  | escape i cbop s t ht hrow he ih => exact ih hp hh hb

theorem fetchExecute_modeInv {s t : State} (h : fetchExecute s = .next t) (hp : s.pend = false) (hh : s.halted = false) :
    t.modeInv := by
  obtain ⟨pc, ops, hs, -⟩ := fetchInstr_fetched s
  rw [fetchExecute, hs] at h
  exact exec_modeInv _ _ _ h hp hh rfl

theorem step_modeInv {s t : State} (hs : s.modeInv) (h : step s = .next t) : t.modeInv := by
  obtain ⟨hip, hbug⟩ := hs
  obtain ⟨it, hi, -, rfl⟩ | ⟨-, hh, ops, rfl, -⟩ | ⟨-, ops, hexec, -⟩ := step_ways h
  · have hb : s.haltBug = false := by simpa [hi] using hbug
    simp [State.modeInv, hb]
  · have hb : s.haltBug = false := by simpa [hh] using hbug
    exact ⟨fun h => hip (by simpa using h.2), by simp [hb]⟩
  · refine fetchExecute_modeInv hexec ?_ rfl
    simpa using hip

/-- Settles O50: the bus operations on the record keep memory canonical and count the ticks; the rest is `step_modeInv`. -/
theorem everyStepKeepsTheInvariant : Obligations.EveryStepKeepsTheInvariant := by
  intro s t hs h
  obtain ⟨hwf, hmode, -⟩ := (inv_iff s).mp hs
  obtain ⟨hbus, hcyc, -⟩ := step_recordsFrom h
  exact (inv_iff t).mpr ⟨by rw [hbus]; exact wf_replay _ _ hwf, step_modeInv hmode h, hcyc⟩

/-- Settles O51: IME is set and PEND and HALTBUG are clear in both reset states, and nothing is counted or recorded. -/
theorem resetMeetsTheInvariant : Obligations.ResetMeetsTheInvariant := by
  have hreset : ∀ (cfg : Config) (bus : Bus), bus.mem.wf = true → (State.resetWith cfg bus).inv := by
    intro cfg bus hwf
    cases h : cfg.bootSkip <;> simpa [State.resetWith, h, State.postBoot, State.coldBoot, State.inv] using hwf
  exact ⟨hreset .default .reset rfl, hreset⟩

/-! ## FATAL -/

/-- Each illegal byte decodes to an instruction that records a decode failure with that byte (rules R70, R179). -/
theorem exec_illegal {op : Byte} (h : op ∈ illegalBytes) :
    ∃ i, decodeOp op = .plain i ∧ ∀ s, exec i s = .next (raiseFatal .decodeFailure op s) := by
  simp only [illegalBytes, List.mem_cons, List.not_mem_nil, or_false] at h
  obtain rfl | rfl | rfl | rfl | rfl | rfl | rfl | rfl | rfl | rfl | rfl := h
  · exact ⟨_, rfl, exec_illegalD3⟩
  · exact ⟨_, rfl, exec_illegalDB⟩
  · exact ⟨_, rfl, exec_illegalDD⟩
  · exact ⟨_, rfl, exec_illegalE3⟩
  · exact ⟨_, rfl, exec_illegalE4⟩
  · exact ⟨_, rfl, exec_illegalEB⟩
  · exact ⟨_, rfl, exec_illegalEC⟩
  · exact ⟨_, rfl, exec_illegalED⟩
  · exact ⟨_, rfl, exec_illegalF4⟩
  · exact ⟨_, rfl, exec_illegalFC⟩
  · exact ⟨_, rfl, exec_illegalFD⟩

/-- A fetched byte whose instruction raises a fatal outcome records that byte and its address. -/
theorem fetchExecute_raises {s t : State} {i : Instr} {k : FatalKind} (h : fetchExecute s = .next t)
    (hi : decodeOp (s.bus.fetchByte s.pc) = .plain i)
    (hk : ∀ u, exec i u = .next (raiseFatal k (s.bus.fetchByte s.pc) u)) :
    t.fatal = some ⟨k, s.bus.fetchByte s.pc, s.pc⟩ := by
  obtain ⟨pc, ops, hs, -⟩ := fetchOpcode_fetched s
  have hf : fetchInstr s = (i, (fetchOpcode s).2) := by simp [fetchInstr, hi]
  rw [fetchExecute, hf, hk, hs, Host.Outcome.next.injEq] at h
  simp [← h]

/-- The byte at PC decides what a fetch and its execution leave in FATAL (rules R32, R213). -/
theorem fetchExecute_fatal {s t : State} (h : fetchExecute s = .next t) :
    t.fatal =
      if s.bus.fetchByte s.pc ∈ illegalBytes then some ⟨.decodeFailure, s.bus.fetchByte s.pc, s.pc⟩
      else if s.bus.fetchByte s.pc = 0x10 then some ⟨.stop, s.bus.fetchByte s.pc, s.pc⟩
      else s.fatal := by
  split
  case isTrue hill =>
    obtain ⟨i, hi, hk⟩ := exec_illegal hill
    exact fetchExecute_raises h hi hk
  case isFalse hill =>
    split
    case isTrue hstop => exact fetchExecute_raises (i := .stop) h (by rw [hstop]; rfl) (by rw [hstop]; exact exec_stop)
    case isFalse hstop =>
      obtain ⟨pc, ops, hs, -⟩ := fetchInstr_fetched s
      have hkept := exec_fatal_kept _ _ _ h _ (encode_fetchInstr s).1 (List.not_mem_cons_of_ne_of_not_mem hstop hill)
      rw [hkept, hs]
      rfl

/-- Nothing before the fetch writes FATAL (rule R73). -/
theorem beforeFetch_fatal (s : State) : (beforeFetch s).state.fatal = s.fatal := by
  obtain ⟨it, -, -, hb⟩ | ⟨-, -, ops, hb, -⟩ | ⟨-, ops, hb, -⟩ := beforeFetch_cases s
  · simp [hb, StepPhase.state]
  · simp [hb, StepPhase.state]
  · simp [hb, StepPhase.state]

/-- Settles O14: FATAL is what the byte at PC makes it where the step fetches, and as it was otherwise. -/
theorem fatalOutcomesComeFromIllegalBytesAndStopAlone : Obligations.FatalOutcomesComeFromIllegalBytesAndStopAlone := by
  refine ⟨step_fatal, fun s t hs hb => ⟨step_finished s t hs hb, ?_⟩, fun s u hs hb => ?_⟩
  · have h := beforeFetch_fatal s
    rwa [hb, hs] at h
  · have hu : u.fatal = none := by
      have h := beforeFetch_fatal s
      rwa [hb, hs] at h
    obtain ⟨t, ht⟩ := exec_completes (fetchInstr u).1 (fetchInstr u).2
    refine ⟨t, (step_fetching s u hs hb).trans ht, ?_⟩
    rw [← hu]
    exact fetchExecute_fatal ht

end Sys2Proof.Machine
end

section
/-! SUPPORT. What an instruction does to the flags, to SP and to time, form by form. -/

namespace Sys2Proof.Machine

/-! ## The flags the shared operations leave -/

@[simp] theorem setStackPair_flags (s : State) (q : StackPair) (v : Word) :
    (s.setStackPair q v).flags = if q = .af then .unpack (loByte v) else s.flags := by cases q <;> rfl

@[simp] theorem aluByte_flags (op : AluOp) (b : Byte) (s : State) :
    (aluByte op b s).flags = (aluOp op s.regs.a b s.flags).2 := rfl

@[simp] theorem stepReg_flags (f : Byte → Flags → Byte × Flags) (r : Reg8) (s : State) :
    (stepReg f r s).flags = (f (s.reg r) s.flags).2 := rfl

@[simp] theorem onA_flags (f : Byte → Flags → Byte × Flags) (s : State) : (onA f s).flags = (f s.regs.a s.flags).2 := rfl

@[simp] theorem rotReg_flags (op : RotOp) (r : Reg8) (s : State) :
    (rotReg op r s).flags = (rotOp op (s.reg r) s.flags).2 := rfl

@[simp] theorem bitReg_flags (b : Fin 8) (r : Reg8) (s : State) :
    (bitReg b r s).flags = bitFlags b (s.reg r) s.flags := rfl

/-! ## Rule R26's table -/

/-- A change of the flags from `f` to `g` agrees with a row of the table (rule R26). -/
def FlagRow.allows (r : FlagRow) (f g : Flags) : Prop :=
  r.z.allows f.z g.z ∧ r.n.allows f.n g.n ∧ r.h.allows f.h g.h ∧ r.c.allows f.c g.c

@[simp] theorem allows_kept (f : Flags) : FlagRow.allows ⟨.kept, .kept, .kept, .kept⟩ f f := ⟨rfl, rfl, rfl, rfl⟩

@[simp] theorem allows_aluOp (op : AluOp) (a b : Byte) (f : Flags) : (aluRowOf op).allows f (aluOp op a b f).2 := by
  cases op with
  | add | adc | sub | sbc | cp => exact ⟨trivial, rfl, trivial, trivial⟩
  | and | xor | or => exact ⟨trivial, rfl, rfl, rfl⟩

@[simp] theorem allows_incOp (v : Byte) (f : Flags) :
    FlagRow.allows ⟨.computed, .forced false, .computed, .kept⟩ f (incOp v f).2 := ⟨trivial, rfl, trivial, rfl⟩

@[simp] theorem allows_decOp (v : Byte) (f : Flags) :
    FlagRow.allows ⟨.computed, .forced true, .computed, .kept⟩ f (decOp v f).2 := ⟨trivial, rfl, trivial, rfl⟩

@[simp] theorem allows_daaOp (a : Byte) (f : Flags) :
    FlagRow.allows ⟨.computed, .kept, .forced false, .computed⟩ f (daaOp a f).2 := ⟨trivial, rfl, rfl, trivial⟩

@[simp] theorem allows_cpl (s : State) :
    FlagRow.allows ⟨.kept, .forced true, .forced true, .kept⟩ s.flags (cpl s).flags := ⟨rfl, rfl, rfl, rfl⟩

@[simp] theorem allows_scf (s : State) :
    FlagRow.allows ⟨.kept, .forced false, .forced false, .forced true⟩ s.flags (scf s).flags := ⟨rfl, rfl, rfl, rfl⟩

@[simp] theorem allows_ccf (s : State) :
    FlagRow.allows ⟨.kept, .forced false, .forced false, .computed⟩ s.flags (ccf s).flags := ⟨rfl, rfl, rfl, trivial⟩

@[simp] theorem allows_rotOpA (op : RotOp) (v : Byte) (f : Flags) :
    FlagRow.allows ⟨.forced false, .forced false, .forced false, .computed⟩ f (rotOpA op v f).2 :=
  ⟨rfl, rfl, rfl, trivial⟩

@[simp] theorem allows_add16Op (a b : Word) (f : Flags) :
    FlagRow.allows ⟨.kept, .forced false, .computed, .computed⟩ f (add16Op a b f).2 := ⟨rfl, rfl, trivial, trivial⟩

@[simp] theorem allows_spPlusOp (sp : Word) (u : Byte) (f : Flags) :
    FlagRow.allows ⟨.forced false, .forced false, .computed, .computed⟩ f (spPlusOp sp u).2 :=
  ⟨rfl, rfl, trivial, trivial⟩

@[simp] theorem allows_rotOp (op : RotOp) (v : Byte) (f : Flags) : (rotRowOf op).allows f (rotOp op v f).2 := by
  cases op with
  | swap => exact ⟨trivial, rfl, rfl, rfl⟩
  | rlc | rrc | rl | rr | sla | sra | srl => exact ⟨trivial, rfl, rfl, trivial⟩

@[simp] theorem allows_bitFlags (b : Fin 8) (v : Byte) (f : Flags) :
    FlagRow.allows ⟨.computed, .forced false, .forced true, .kept⟩ f (bitFlags b v f) := ⟨trivial, rfl, rfl, rfl⟩

/-- Each form follows its row: the operation it runs does. -/
theorem exec_flags_allowed (i : Instr) (s t : State) (h : i.wellFormed = true) (ht : exec i s = .next t) :
    (flagRow i).allows s.flags t.flags := by
  induction i using Instr.byForm with
  | prefixCb => exact absurd h (by decide)
  | ldAtHlDecA =>
    obtain ⟨hl, -, rfl⟩ := exec_ldAtHlDecA_next ht
    simp
  | pop q =>
    simp at ht
    by_cases hq : q = .af
    · simp [hq, FlagRow.allows, FlagEffect.allows]
    · simp [← ht, hq]
  | _ =>
    simp at ht
    simp [← ht]

/-- Settles O55: every form follows its row, and a step with an interrupt to enter enters it, which writes no flag. -/
theorem flagsFollowTheTable : Obligations.FlagsFollowTheTable := by
  refine ⟨exec_flags_allowed, fun s t it hi hit h => ?_⟩
  obtain ⟨it', -, -, rfl⟩ | ⟨hn, -⟩ | ⟨hn, -⟩ := step_ways h
  · simp
  · simp [hn hi] at hit
  · simp [hn hi] at hit

/-! ## SP (rule R21) -/

@[simp] theorem setPair_sp (s : State) (p : Pair) (v : Word) :
    (s.setPair p v).sp = if p = .sp then v else s.sp := by cases p <;> rfl

/-- The opcode of the instruction is one of those that write SP. -/
def mayWriteSp (i : Instr) : Bool := (encode i).head?.any fun op => writesSp op.toNat

@[simp] theorem mayWriteSp_ldPairNn (p : Pair) (nn : Word) : mayWriteSp (.ofLdPairNn p nn) = decide (p = .sp) := by
  cases p <;> rfl

@[simp] theorem mayWriteSp_incPair (p : Pair) : mayWriteSp (.ofIncPair p) = decide (p = .sp) := by cases p <;> rfl

@[simp] theorem mayWriteSp_decPair (p : Pair) : mayWriteSp (.ofDecPair p) = decide (p = .sp) := by cases p <;> rfl

@[simp] theorem mayWriteSp_push (q : StackPair) : mayWriteSp (.ofPush q) = true := by cases q <;> rfl

@[simp] theorem mayWriteSp_pop (q : StackPair) : mayWriteSp (.ofPop q) = true := by cases q <;> rfl

@[simp] theorem mayWriteSp_callIf (cc : Cond) (nn : Word) : mayWriteSp (.ofCall cc nn) = true := by cases cc <;> rfl

@[simp] theorem mayWriteSp_retIf (cc : Cond) : mayWriteSp (.ofRet cc) = true := by cases cc <;> rfl

@[simp] theorem mayWriteSp_rst (y : Fin 8) : mayWriteSp (.ofRst y) = true := by
  revert y
  exact forall_fin8 rfl rfl rfl rfl rfl rfl rfl rfl

/-- The forms on a pair write SP only where the pair is SP, whose opcode `writesSp` lists; the stack forms are all listed; no
other form writes it. -/
theorem exec_sp_kept (i : Instr) (s t : State) (ht : exec i s = .next t) (hsp : mayWriteSp i = false) :
    t.sp = s.sp := by
  induction i, s, t, ht using exec_byRow with
  | row i s t ht h =>
    induction i using Instr.byForm with
    | prefixCb => exact absurd h (by decide)
    | ldPairNn _ _ | incPair _ | decPair _ =>
      simp at ht hsp
      simp [← ht, hsp]
    | push _ | pop _ | callIf _ _ | retIf _ | rst _ => simp at hsp
    | ldSpHl | addSpE _ | ret | reti | callNn _ => exact absurd hsp Bool.noConfusion
    | ldAtHlDecA =>
      obtain ⟨hl, -, rfl⟩ := exec_ldAtHlDecA_next ht
      simp
    | _ =>
      simp at ht
      simp [← ht]
  | escape i cbop s t ht hrow he ih => exact ih (by rw [mayWriteSp, he]; rfl)

/-- Settles O56: `exec_sp_kept`, the opcode's list read off the encoding. -/
theorem onlyStackInstructionsWriteSp : Obligations.OnlyStackInstructionsWriteSp := by
  intro i s t op hop hw ht
  exact exec_sp_kept i s t ht (by simp [mayWriteSp, hop, hw])

/-! ## Time (rule R33) -/

@[simp] theorem ticksIn_ite (c : Prop) [Decidable c] (a b : List BusOp) :
    ticksIn (if c then a else b) = if c then ticksIn a else ticksIn b := apply_ite _ _ _ _

/-- An instruction takes at most 16 ticks after its fetches, and more than 12 only where it has one byte: RET cc, and the
escape with the fetch of its second byte (rule R231). -/
theorem exec_cyc_le (i : Instr) (s t : State) (ht : exec i s = .next t) :
    t.cyc ≤ s.cyc + 12 ∨ (encode i).length = 1 ∧ t.cyc ≤ s.cyc + 16 := by
  induction i, s, t, ht using exec_byRow with
  | row i s t ht h =>
    induction i using Instr.byForm with
    | prefixCb => exact absurd h (by decide)
    | retIf cc =>
      simp at ht
      refine .inr ⟨by cases cc <;> rfl, ?_⟩
      cases hc : s.cond cc <;> simp [← ht, hc]
    | jpIf cc _ | jrIf cc _ | callIf cc _ =>
      simp at ht
      cases hc : s.cond cc <;> simp [← ht, hc]
    | bitAtHl _ =>
      simp at ht
      cases hc : s.cfg.bitHlTicks <;> simp [← ht, hc]
    | ldAtHlDecA =>
      obtain ⟨hl, -, rfl⟩ := exec_ldAtHlDecA_next ht
      simp
    | _ =>
      simp at ht
      simp [← ht]
  | escape i cbop s t ht hrow he ih =>
    refine .inr ⟨rfl, ?_⟩
    simp [he] at ih
    omega

/-- A fetch and its execution take at most 24 ticks. -/
theorem fetchExecute_cyc_le {s t : State} (h : fetchExecute s = .next t) : t.cyc ≤ s.cyc + 24 := by
  obtain ⟨pc, ops, hs, hops⟩ := fetchInstr_fetched s
  have hlen := (encode_fetchInstr s).2
  have hexec := exec_cyc_le _ _ _ h
  simp only [hs, onBus_cyc, hops] at hexec
  omega

/-- Settles O59: the entry takes 8 + 4 * 6 ticks, a halted step 4, and an instruction at most 24, after 4 where it wakes. -/
theorem aStepTakesAtMostThirtyTwoTicks : Obligations.AStepTakesAtMostThirtyTwoTicks := by
  intro s t hcfg h
  obtain ⟨it, hi, hit, rfl⟩ | ⟨-, -, ops, rfl, hops⟩ | ⟨-, ops, hexec, hops⟩ := step_ways h
  · refine ⟨by simp [hcfg, Config.default], fun hn => ?_⟩
    simp [hn hi] at hit
  · simp [hcfg, Config.default] at hops
    simp [hops]
  · have hle := fetchExecute_cyc_le hexec
    have hidle : ticksIn ops ≤ 4 := by rw [hops, hcfg]; split <;> decide
    simp only [onBus_cyc, opened_cyc] at hle
    omega

end Sys2Proof.Machine
end

section
/-! SUPPORT. The register file and the pairs (rules R18 to R24), and cold boot. -/

namespace Sys2Proof.Machine

/-! ## The register file and the pairs -/

theorem toNat_pack (f : Flags) :
    f.pack.toNat =
      (if f.z then 0x80 else 0) + (if f.n then 0x40 else 0) + (if f.h then 0x20 else 0) + (if f.c then 0x10 else 0) := by
  obtain ⟨z, n, h, c⟩ := f
  revert z n h c
  decide

theorem reg_setReg (s : State) (r r' : Reg8) (b : Byte) : (s.setReg r b).reg r' = if r' = r then b else s.reg r' := by
  split
  case isTrue h => rw [h, reg_setReg_same]
  case isFalse h => exact Regs.get_set_other _ _ h

theorem loByte_eq_setWidth (v : Word) : loByte v = v.setWidth 8 := by
  apply BitVec.eq_of_toNat_eq
  rw [toNat_loByte, BitVec.toNat_setWidth]

theorem joinBytes_eq_append (hi lo : Byte) : joinBytes hi lo = hi ++ lo := by
  apply BitVec.eq_of_toNat_eq
  rw [toNat_joinBytes, BitVec.toNat_append, ← Nat.shiftLeft_add_eq_or_of_lt lo.isLt, Nat.shiftLeft_eq]

/-- The flag write takes bits 7 to 4 of the low byte (rule R24). -/
theorem unpack_loByte (v : Word) :
    Flags.unpack (loByte v) = ⟨v.getLsbD 7, v.getLsbD 6, v.getLsbD 5, v.getLsbD 4⟩ := by
  simp [Flags.unpack, loByte_eq_setWidth]

/-- A byte written to F reads back with its low nibble zero (rules R23, R24). -/
theorem pack_unpack (b : Byte) : (Flags.unpack b).pack = b &&& 0xF0 := by
  revert b
  decide

/-- Writing AF, then reading it, gives the value with its low nibble zero (rules R23, R24). -/
theorem stackPair_setStackPair_af (s : State) (v : Word) : (s.setStackPair .af v).stackPair .af = v &&& 0xFFF0 :=
  calc joinBytes (hiByte v) (Flags.unpack (loByte v)).pack
    _ = (hiByte v &&& BitVec.allOnes 8) ++ (loByte v &&& 0xF0) := by
      rw [joinBytes_eq_append, pack_unpack, BitVec.and_allOnes]
    _ = (hiByte v ++ loByte v) &&& (BitVec.allOnes 8 ++ 0xF0#8) := BitVec.and_append.symm
    _ = v &&& 0xFFF0 := by rw [← joinBytes_eq_append, joinBytes_hi_lo]; rfl

/-- Settles O25: the halves of a pair are its bytes in base 256, and AF is read through the packed flags. -/
theorem registerAndPairWritesChangeTheirOwnBytes : Obligations.RegisterAndPairWritesChangeTheirOwnBytes := by
  intro s r r' b p v
  refine ⟨toNat_joinBytes _ _, toNat_joinBytes _ _, toNat_joinBytes _ _, toNat_joinBytes _ _, toNat_pack _,
    reg_setReg s r r' b, rfl, pair_setPair_same s p v, rfl, rfl, rfl, rfl, ?_, stackPair_setStackPair_af s v⟩
  rw [← unpack_loByte]
  rfl

/-! ## Cold boot -/

/-- Settles O8: without BOOT_SKIP the reset is `State.coldBoot`, field by field. -/
theorem resetIsTheColdBootState : Obligations.ResetIsTheColdBootState := by
  refine ⟨fun cfg bus h => ?_, rfl, rfl⟩
  have hcold : State.resetWith cfg bus = State.coldBoot cfg bus := by simp [State.resetWith, h]
  rw [hcold]
  exact ⟨rfl, rfl, rfl, rfl, rfl, rfl, rfl, rfl, rfl, rfl, rfl, rfl, rfl⟩

end Sys2Proof.Machine
end

section
/-! SUPPORT. The one acknowledge of a step, its record as the account of the bus, and the addresses an instruction stores
to. -/

namespace Sys2Proof.Machine

/-! ## The acknowledge (rule R44) -/

theorem acknowledge_some {b : Bus} {it : IntSource} (h : b.nextInterrupt = some it) :
    b.acknowledge = { b with pending := b.pending.put it false } := by
  simp [Bus.acknowledge, h]

/-- A step that enters no interrupt goes on from `State.opened` without another acknowledge (rules R44, R73). -/
theorem step_follows_opened {s t : State} (hn : s.noInterrupt) (h : step s = .next t) : s.opened.Follows t := by
  have hb := haltPhase_follows s.opened
  rw [← beforeFetch_opened s hn] at hb
  obtain ⟨-, hfin | ⟨u, hfetch, hexec⟩⟩ := step_cases h
  · rwa [hfin] at hb
  · rw [hfetch] at hb
    exact hb.trans (fetchExecute_follows hexec)

/-- Settles O12: the acknowledge opens the record, of the interrupt entry with its answer and of every other step by
`State.opened`; neither the entry's pushes and ticks nor what follows `State.opened` make another. -/
theorem acknowledgeIsCalledOnceAndOnlyWithIme : Obligations.AcknowledgeIsCalledOnceAndOnlyWithIme := by
  refine ⟨acknowledge_none, fun b it x h => ?_, fun s t h => ?_⟩
  · rw [acknowledge_some h]
    refine ⟨?_, rfl, rfl, rfl, rfl, rfl⟩
    by_cases hx : x = it <;> simp [hx]
  · by_cases hn : s.noInterrupt
    · obtain ⟨ops, -, -, htrace, -, hack⟩ := step_follows_opened hn h
      refine ⟨ops, ?_, hack⟩
      cases hi : s.ime with
      | false => simp [htrace, hi]
      | true => simp [htrace, hi, hn hi]
    · obtain ⟨it, hi, hit, rfl⟩ | ⟨hn', -⟩ | ⟨hn', -⟩ := step_ways h
      · exact
          ⟨writeOps (s.sp - 1) (hiByte s.pc) ++ writeOps (s.sp - 2) (loByte s.pc) ++ tickOps (4 * s.cfg.intExtraDelayM),
            by simp [hi, hit], by simp⟩
      · exact absurd hn' hn
      · exact absurd hn' hn

/-! ## The record (rules R39, R86) -/

/-- Settles O52: the first two parts of `step_recordsFrom`. -/
theorem theRecordedOperationsAreAllTheBusSees : Obligations.TheRecordedOperationsAreAllTheBusSees := by
  intro s t h
  obtain ⟨hbus, hcyc, -⟩ := step_recordsFrom h
  exact ⟨hbus, hcyc⟩

/-! ## Memory (rules R41, R53) -/

/-- A row of the extended table stores where its second byte says. -/
theorem storedAddrs_decodeCb (cbop : Byte) (s : State) : storedAddrs (decodeCb cbop) s = storedByCb cbop s := by
  refine forall_byte (P := fun c => storedAddrs (decodeCb c) s = storedByCb c s) (fun n hn => ?_) cbop
  interval_cases n <;> exact rfl

/-- How many of the operations store to the address `x`. -/
def storesIn (x : Word) (ops : List BusOp) : Nat := ops.countP (BusOp.storesTo x)

@[simp] theorem storesIn_nil (x : Word) : storesIn x [] = 0 := rfl

@[simp] theorem storesIn_append (x : Word) (a b : List BusOp) : storesIn x (a ++ b) = storesIn x a + storesIn x b :=
  List.countP_append

@[simp] theorem storesIn_ite (x : Word) (c : Prop) [Decidable c] (a b : List BusOp) :
    storesIn x (if c then a else b) = if c then storesIn x a else storesIn x b := apply_ite _ _ _ _

@[simp] theorem storesIn_nextInterrupt (x : Word) (it : Option IntSource) : storesIn x [.nextInterrupt it] = 0 := rfl

@[simp] theorem storesIn_tickOps (x : Word) (k : Nat) : storesIn x (tickOps k) = 0 := by
  simp [storesIn, tickOps, List.countP_replicate, BusOp.storesTo]

@[simp] theorem storesIn_readOps (x a : Word) (v : Byte) : storesIn x (readOps a v) = 0 := storesIn_tickOps x 4

@[simp] theorem storesIn_writeOps (x a : Word) (v : Byte) : storesIn x (writeOps a v) = if x = a then 1 else 0 := by
  have htick : (tickOps 4).countP (BusOp.storesTo x) = 0 := storesIn_tickOps x 4
  simp [storesIn, writeOps, List.countP_cons, htick, BusOp.storesTo, eq_comm (a := x)]

@[simp] theorem storesIn_returnOps (x : Word) (s : State) : storesIn x (returnOps s) = 0 := by simp [returnOps]

/-- On a quiet bus an address to which no operation stores keeps its byte. -/
theorem fetchByte_replay_of_storesIn {b : Bus} {x : Word} {ops : List BusOp} (hq : b.quiet = true)
    (h : storesIn x ops = 0) : (b.replay ops).fetchByte x = b.fetchByte x :=
  fetchByte_replay ops b x hq fun op hop => Bool.eq_false_iff.mpr (List.countP_eq_zero.mp h op hop)

/-- A row that is not the escape records stores to its addresses alone, on every bus: each is a `writeOps` of its form. -/
theorem exec_storesIn_row (i : Instr) (s t : State) (h : i.wellFormed = true) (ht : exec i s = .next t) (x : Word) :
    x ∉ storedAddrs i s → storesIn x t.trace = storesIn x s.trace := by
  induction i using Instr.byForm with
  | prefixCb => exact absurd h (by decide)
  | callIf cc _ =>
    simp at ht
    cases hc : s.cond cc <;> simp +contextual [← ht, hc, stackSlots]
  | ldAtHlDecA =>
    obtain ⟨hl, -, rfl⟩ := exec_ldAtHlDecA_next ht
    simp +contextual
  | _ =>
    simp at ht
    simp +contextual [← ht, stackSlots]

/-- Every instruction records stores to its addresses alone: the escape's are those of the row its second byte selects. -/
theorem exec_storesIn (i : Instr) (s t : State) (ht : exec i s = .next t) (x : Word) (hx : x ∉ storedAddrs i s) :
    storesIn x t.trace = storesIn x s.trace := by
  cases h : i.wellFormed with
  | true => exact exec_storesIn_row i s t h ht x hx
  | false =>
    obtain rfl := Instr.eq_prefixCb_of_not_wellFormed i h
    rw [exec_prefixCb, fetch8_fst, fetch8_snd] at ht
    have hrow := exec_storesIn_row _ _ t (wellFormed_decodeCb _) ht x
    rw [storedAddrs_decodeCb] at hrow
    simpa using hrow hx

/-- Settles O54: the bus after an instruction is the one before it after the recorded operations, and none of them stores to
another address. -/
theorem memoryChangesOnlyAtTheAddressesStoredTo : Obligations.MemoryChangesOnlyAtTheAddressesStoredTo := by
  intro i s t hq ht x hx
  have hstores := exec_storesIn i s t ht x hx
  obtain ⟨ops, hbus, -, htrace, -, -⟩ := exec_follows i s t ht
  rw [htrace, storesIn_append, Nat.add_eq_left] at hstores
  rw [hbus, fetchByte_replay_of_storesIn hq hstores]

end Sys2Proof.Machine
end

section
/-! SUPPORT. The decoder and the encoder are inverse to each other, and the decoder is total: the equations of `decode`, one
for each form of an opcode byte, and the obligations that follow from them. -/

namespace Sys2Proof

open Sys2Proof.Machine

/-! ## The equations of `decode` (rules R58, R65) -/

section Equations

variable {op : Byte}

theorem decode_plain {i : Instr} (h : decodeOp op = .plain i) (rest : List Byte) : decode (op :: rest) = .ok (i, rest) := by
  simp only [decode, h]

theorem decode_imm8 {f : Byte → Instr} (h : decodeOp op = .imm8 f) (n : Byte) (rest : List Byte) :
    decode (op :: n :: rest) = .ok (f n, rest) := by
  simp only [decode, h]

theorem decode_imm16 {f : Word → Instr} (h : decodeOp op = .imm16 f) (lo hi : Byte) (rest : List Byte) :
    decode (op :: lo :: hi :: rest) = .ok (f (joinBytes hi lo), rest) := by
  simp only [decode, h]

theorem decode_escape (h : decodeOp op = .escape) (cbop : Byte) (rest : List Byte) :
    decode (op :: cbop :: rest) = .ok (decodeCb cbop, rest) := by
  simp only [decode, h]

/-- An opcode that a word completes reads the word back from its bytes, low byte first (rule R65). -/
theorem decode_word {f : Word → Instr} (h : decodeOp op = .imm16 f) (nn : Word) (rest : List Byte) :
    decode (op :: loByte nn :: hiByte nn :: rest) = .ok (f nn, rest) := by
  rw [decode_imm16 h, joinBytes_hi_lo]

end Equations

/-! ## Obligations -/

/-- Settles O1, form by form: once its register, pair, condition, operation and bit operands are given, the opcode byte
computes, and decoding it gives the form with its byte operand; a word operand is read back by `decode_word`. -/
theorem everyInstructionDecodesFromItsEncoding : Obligations.EveryInstructionDecodesFromItsEncoding := by
  intro i rest h
  induction i using Instr.byForm with
  | prefixCb => exact absurd h (by decide)
  | ldAtNnSp nn | jpNn nn | callNn nn | ldAtNnA nn | ldAAtNn nn => exact decode_word rfl nn rest
  | ldPairNn p nn => cases p <;> exact decode_word rfl nn rest
  | jpIf cc nn | callIf cc nn => cases cc <;> exact decode_word rfl nn rest
  | jrIf cc _ | retIf cc => cases cc <;> rfl
  | ldRegReg dst src => cases dst <;> cases src <;> rfl
  | ldRegN r _ | ldRegAtHl r | ldAtHlReg r | incReg r | decReg r => cases r <;> rfl
  | addHlPair p | incPair p | decPair p | push p | pop p => cases p <;> rfl
  | aluReg op r | rotReg op r => cases op <;> cases r <;> rfl
  | aluAtHl op | aluN op _ | rotAtHl op => cases op <;> rfl
  | bitReg b r | resReg b r | setReg b r => cases r <;> fin_cases b <;> rfl
  | bitAtHl b | resAtHl b | setAtHl b | rst b => fin_cases b <;> rfl
  | _ => rfl

/-- Settles O2: bytes long enough for the form of their opcode begin with the encoding of what they decode to, and shorter
ones decode to nothing but the bare escape. -/
theorem everyDecodedInstructionEncodesBack : Obligations.EveryDecodedInstructionEncodesBack := by
  intro bytes i rest h
  cases bytes with
  | nil => cases h
  | cons op bytes =>
    have hform := decodeOp_form op
    generalize hd : decodeOp op = form at hform
    cases hform with
    | plain i he _ =>
      cases (decode_plain hd bytes).symm.trans h
      simp [he]
    | imm8 f he _ =>
      match bytes with
      | [] => simp [decode, hd] at h
      | n :: bytes =>
        cases (decode_imm8 hd n bytes).symm.trans h
        simp [he]
    | imm16 f he _ =>
      match bytes with
      | [] | [_] => simp [decode, hd] at h
      | lo :: hi :: bytes =>
        cases (decode_imm16 hd lo hi bytes).symm.trans h
        simp [he]
    | escape he =>
      subst he
      match bytes with
      | [] =>
        cases h
        rfl
      | cbop :: bytes =>
        cases (decode_escape hd cbop bytes).symm.trans h
        simp [encode_decodeCb]

/-- Settles O3: the form of the first byte gives the length, one byte for the opcode and one for each byte it calls for. -/
theorem anyThreeBytesBeginWithAnInstruction : Obligations.AnyThreeBytesBeginWithAnInstruction := by
  intro op
  have hform := decodeOp_form op
  generalize hd : decodeOp op = form at hform
  cases hform with
  | plain i he hw =>
    exact ⟨1, by decide, by decide, fun b1 b2 rest => ⟨i, _, decode_plain hd _, hw, by simp [he]⟩⟩
  | imm8 f he hw =>
    exact ⟨2, by decide, by decide, fun b1 b2 rest => ⟨f b1, _, decode_imm8 hd _ _, hw _, by simp [he]⟩⟩
  | imm16 f he hw =>
    exact ⟨3, by decide, by decide, fun b1 b2 rest => ⟨f (joinBytes b2 b1), _, decode_imm16 hd _ _ _, hw _, by simp [he]⟩⟩
  | escape _ =>
    exact ⟨2, by decide, by decide, fun b1 b2 rest =>
      ⟨decodeCb b1, _, decode_escape hd _ _, wellFormed_decodeCb _, by simp [encode_decodeCb]⟩⟩

/-- Settles O4: each of the words is the encoding of its instruction, so it decodes to it by O1. -/
theorem wordsOfTheOpcodeMapDecode : Obligations.WordsOfTheOpcodeMapDecode := by
  have reads (i : Instr) (h : i.wellFormed = true) : decode (encode i ++ []) = .ok (i, []) :=
    everyInstructionDecodesFromItsEncoding i [] h
  exact ⟨reads .ldBC rfl, reads (.ldAtHlN 0x7F) rfl, reads (.ldHlNn 0xC000) rfl, reads .pushAf rfl, reads .sbcAtHl rfl,
    reads (.andN 0x38) rfl, reads .addHlSp rfl, reads (.callCNn 0x2000) rfl, reads .halt rfl, reads .illegalFD rfl,
    reads .rrAtHl rfl, reads .set1E rfl⟩

end Sys2Proof
end

section
/-! SUPPORT. The fetches of a whole instruction as its bytes decode, with HALTBUG and without; the halted step; and the
stack's two transfers. -/

namespace Sys2Proof.Machine

/-! ## Fetch and decode (rules R81 to R83) -/

/-- The state after the fetches of `n` more bytes from PC on. -/
def State.afterFetches (s : State) (n : Nat) : State :=
  State.onBus (fetchOps s.bus s.pc n) { s with pc := s.pc + BitVec.ofNat 16 n }

@[simp] theorem afterFetches_zero (s : State) : s.afterFetches 0 = s := by
  simp [State.afterFetches, fetchOps]

theorem add_one_add_ofNat (a : Word) (n : Nat) : a + 1 + BitVec.ofNat 16 n = a + BitVec.ofNat 16 (n + 1) := by
  rw [Nat.add_comm n 1, BitVec.ofNat_add, ← BitVec.add_assoc]
  rfl

/-- One byte fetched, then `n` more. -/
theorem afterFetches_fetch8 (s : State) (n : Nat) : (fetch8 s).2.afterFetches n = s.afterFetches (n + 1) := by
  rw [State.afterFetches, State.afterFetches, ← add_one_add_ofNat]
  simp [fetchOps, State.onBus, Nat.add_assoc]

theorem fetch8_eq_afterFetches (s : State) : (fetch8 s).2 = s.afterFetches 1 := by
  rw [← afterFetches_fetch8, afterFetches_zero]

theorem fetch16_fst (s : State) :
    (fetch16 s).1 =
      joinBytes ((s.bus.replay (readOps s.pc (s.bus.fetchByte s.pc))).fetchByte (s.pc + 1)) (s.bus.fetchByte s.pc) := by
  rw [fetch16, fetch8_fst, fetch8_fst, fetch8_snd]
  rfl

theorem fetch16_eq_afterFetches (s : State) : (fetch16 s).2 = s.afterFetches 2 := by
  rw [← afterFetches_fetch8, ← fetch8_eq_afterFetches]
  rfl

/-- A fetch whose bytes decode to `i` runs `i` after the fetches of its other bytes, wherever the opcode's fetch has left PC
(rules R73, R81 to R83, R178). -/
theorem fetchExecute_of_decode {s u : State} {i : Instr} {rest : List Byte} (hu : (fetchOpcode s).2 = u)
    (h : decode (s.bus.fetchByte s.pc :: fetchedBytes u.bus u.pc 2) = .ok (i, rest)) :
    ∃ n, (encode i).length = n + 1 ∧ fetchExecute s = exec i (u.afterFetches n) := by
  have hform := decodeOp_form (s.bus.fetchByte s.pc)
  simp only [fetchExecute, fetchInstr, fetchOpcode_fst, hu]
  generalize s.bus.fetchByte s.pc = op at h hform
  generalize hd : decodeOp op = form at hform
  cases hform with
  | plain j he _ =>
    cases (decode_plain hd _).symm.trans h
    exact ⟨0, by simp [he], by rw [afterFetches_zero]⟩
  | imm8 f he _ =>
    cases (decode_imm8 hd _ _).symm.trans h
    exact ⟨1, by simp [he], by rw [← fetch8_eq_afterFetches]; rfl⟩
  | imm16 f he _ =>
    cases (decode_imm16 hd _ _ _).symm.trans h
    refine ⟨2, by simp [he], ?_⟩
    dsimp only
    rw [fetch16_fst, fetch16_eq_afterFetches]
  | escape _ =>
    cases (decode_escape hd _ _).symm.trans h
    exact ⟨1, by simp [encode_decodeCb], by rw [← fetch8_eq_afterFetches]; exact exec_prefixCb u⟩

/-- A step of a running core that enters no interrupt is the fetch and execution from `State.opened` (rule R73). -/
theorem step_running {s : State} (hf : s.fatal = none) (hh : s.halted = false) (hn : s.noInterrupt) :
    step s = fetchExecute s.opened :=
  step_fetching s _ hf ((beforeFetch_opened s hn).trans (haltPhase_running _ hh))

/-- Settles O5: the opcode's fetch is the first of the fetches from PC on. -/
theorem stepRunsTheDecodedInstruction : Obligations.StepRunsTheDecodedInstruction := by
  intro s i rest hf hh hb hn hdec
  obtain ⟨n, hlen, hrun⟩ := fetchExecute_of_decode (fetchOpcode_snd s.opened hb) hdec
  rw [step_running hf hh hn, hrun, hlen, ← add_one_add_ofNat]
  simp [State.afterFetches, fetchOps, State.onBus]

/-- Settles O6: after the opcode's fetch, which leaves PC where it is, the fetches from PC on give the instruction's next
bytes. -/
theorem haltBugFetchReadsTheByteTwice : Obligations.HaltBugFetchReadsTheByteTwice := by
  intro s i rest hf hh hb hn op after hdec
  obtain ⟨n, hlen, hrun⟩ := fetchExecute_of_decode (fetchOpcode_snd_haltBug s.opened hb) hdec
  rw [step_running hf hh hn, hrun, hlen, Nat.add_sub_cancel]
  simp [State.afterFetches, State.onBus, op, after]

/-! ## The halted step (rule R75) -/

/-- Settles O13: the three ways of `haltPhase` from `State.opened`. -/
theorem haltedStepIdlesOrWakes : Obligations.HaltedStepIdlesOrWakes := by
  intro s hf hh hn idle seen
  have hb := beforeFetch_opened s hn
  refine ⟨fun hi => ?_, fun hi hseen => ?_, fun it hi hseen => ?_⟩
  · exact step_finished s _ hf (hb.trans (haltPhase_stays s.opened hh (.inl hi)))
  · rw [← hseen]
    exact step_finished s _ hf (hb.trans (haltPhase_stays s.opened hh (.inr hseen)))
  · exact step_fetching s _ hf (hb.trans (haltPhase_wake s.opened it hh hi hseen))

/-! ## The stack (rules R84, R85) -/

/-- On a quiet bus the word pushed is the word popped. -/
theorem pop16_push16_fst (v : Word) (s : State) (h : s.bus.quiet = true) : (pop16 (push16 v s)).1 = v := by
  have hhigh := fetchByte_replay_writeOps s.bus (s.sp - 1) (s.sp - 1) (hiByte v) h
  have hq := quiet_replay (writeOps (s.sp - 1) (hiByte v)) s.bus h
  have hlow (x : Word) := fetchByte_replay_writeOps _ (s.sp - 2) x (loByte v) hq
  have hq' := quiet_replay (writeOps (s.sp - 2) (loByte v)) _ hq
  have hsp : s.sp - 2 + 1 = s.sp - 1 := by bv_omega
  have hne : s.sp - 1 ≠ s.sp - 2 := by bv_omega
  rw [pop16_fst, push16_eq]
  simp only [onBus_bus, onBus_sp, replay_append]
  rw [hsp, fetchByte_replay_readOps _ _ _ _ hq', hlow, hlow, if_neg hne, if_pos rfl, hhigh, if_pos rfl, joinBytes_hi_lo]

theorem pop16_push16_sp (v : Word) (s : State) : (pop16 (push16 v s)).2.sp = s.sp := by
  rw [pop16_snd, push16_eq]
  exact BitVec.sub_add_cancel s.sp 2

/-- A pair without F reads as the word written to it (rule R19). -/
theorem stackPair_setStackPair_same (s : State) {q : StackPair} (v : Word) (h : q ≠ .af) :
    (s.setStackPair q v).stackPair q = v := by
  cases q with
  | bc => exact pair_setPair_same s .bc v
  | de => exact pair_setPair_same s .de v
  | hl => exact pair_setPair_same s .hl v
  | af => exact absurd rfl h

/-- Settles O29: the pop reads the pushed word back, and writes it to the second pair. -/
theorem pushThenPopGivesTheValueBack : Obligations.PushThenPopGivesTheValueBack := by
  intro q q' s t u hq ht hu
  rw [exec_ofPush] at ht
  cases ht
  rw [exec_ofPop] at hu
  cases hu
  have hq' : (internal s).bus.quiet = true := by
    rw [internal_eq]
    exact quiet_replay _ _ hq
  simp only [push, pop, pop16_push16_fst _ _ hq', setStackPair_sp, pop16_push16_sp]
  refine ⟨by rw [internal_eq]; rfl, fun h => stackPair_setStackPair_same _ _ h, fun h => ?_⟩
  rw [h, stackPair_setStackPair_af]

/-- Settles O27: `push_eq`, for each pair. -/
theorem pushStoresHighByteThenLowByte : Obligations.PushStoresHighByteThenLowByte := by
  intro q s
  rw [exec_ofPush, push_eq]

/-- Settles O28: `pop_eq` for each pair, whose halves are the two bytes read. -/
theorem popReadsLowByteThenHighByte : Obligations.PopReadsLowByteThenHighByte := by
  intro s lo hi popped
  have hhi : hiByte (pop16 s).1 = hi := by rw [pop16_fst, hiByte_joinBytes]
  have hlo : loByte (pop16 s).1 = lo := by rw [pop16_fst, loByte_joinBytes]
  have hpop (q : StackPair) : exec (.ofPop q) s = popped (s.setStackPair q (pop16 s).1) := by
    rw [exec_ofPop, pop_eq]
    cases q <;> rfl
  rw [← hhi, ← hlo]
  exact ⟨hpop .bc, hpop .de, hpop .hl, hpop .af⟩

end Sys2Proof.Machine
end

section
/-! SUPPORT. The 8-bit loads (rules R90 to R108): the two address forms that the rules compute, and the obligations of the
family, each assembled from the form's row in `Laws/Exec` and the closed form of its operation in `Laws/Effects`. -/

namespace Sys2Proof.Machine

/-! ## Addresses -/

/-- The high-page address is the number rule R65 gives; no byte carries out of it. -/
theorem highPage_eq_ofNat (n : Byte) : highPage n = BitVec.ofNat 16 (0xFF00 + n.toNat) := by
  rw [BitVec.ofNat_add, BitVec.ofNat_toNat]
  rfl

/-- A sum of words is the sum of their values modulo 65536. -/
theorem add_eq_ofNat_mod (a d : Word) : a + d = BitVec.ofNat 16 ((a.toNat + d.toNat) % 65536) := by
  apply BitVec.eq_of_toNat_eq
  rw [BitVec.toNat_add, BitVec.toNat_ofNat, Nat.mod_mod]

/-! ## Between registers and HL (rules R90 to R94) -/

/-- Settles O19: the row of `LD r,r'` is one register write. -/
theorem ldRegRegCopiesARegister : Obligations.LdRegRegCopiesARegister := by
  intro dst src s
  rw [exec_ofLdRegReg, ldRegReg_eq]

/-- Settles O20: the load takes its address from the state before the register is written. -/
theorem ldRegLoadsAnImmediateOrTheByteAtHl : Obligations.LdRegLoadsAnImmediateOrTheByteAtHl := by
  intro r n s
  constructor
  · rw [exec_ofLdRegN, ldRegByte_eq]
  · rw [exec_ofLdRegAtHl, ldRegMem_eq]

/-- Settles O21: each store is one write at HL. -/
theorem ldAtHlStoresARegisterOrAnImmediate : Obligations.LdAtHlStoresARegisterOrAnImmediate := by
  intro r n s
  constructor
  · rw [exec_ofLdAtHlReg, write8_eq]
  · rw [exec_ldAtHlN, write8_eq]

/-! ## A at an address (rules R95 to R104) -/

/-- Settles O22: every one of these loads is a load of A from its address. -/
theorem ldAccumulatorFromMemory : Obligations.LdAccumulatorFromMemory := by
  intro s n nn loaded
  have load (a : Word) : .next (ldRegMem .a a s) = loaded a := by
    rw [ldRegMem_eq]
    rfl
  refine ⟨?_, ?_, ?_, ?_, ?_⟩
  · rw [exec_ldAAtBc, load]
  · rw [exec_ldAAtDe, load]
  · rw [exec_ldAAtNn, load]
  · rw [exec_ldhAAtN, load, highPage_eq_ofNat]
  · rw [exec_ldAAtC, load, highPage_eq_ofNat]

/-- Settles O23: every one of these stores is a store of A at its address. -/
theorem storeAccumulatorToMemory : Obligations.StoreAccumulatorToMemory := by
  intro s n nn stored
  have store (a : Word) : .next (write8 a s.regs.a s) = stored a := by rw [write8_eq]
  refine ⟨?_, ?_, ?_, ?_, ?_⟩
  · rw [exec_ldAtBcA, store]
  · rw [exec_ldAtDeA, store]
  · rw [exec_ldAtNnA, store]
  · rw [exec_ldhAtNA, store, highPage_eq_ofNat]
  · rw [exec_ldAtCA, store, highPage_eq_ofNat]

/-! ## A at HL, then HL moved (rules R105 to R108) -/

/-- Settles O24: the access uses the old HL, and moving HL by 1 or -1 adds 1 or 65535 modulo 65536. -/
theorem ldWithHlMovedAfterwards : Obligations.LdWithHlMovedAfterwards := by
  intro s v up down
  have hup : s.hl + 1 = up := add_eq_ofNat_mod s.hl 1
  have hdown : s.hl + -1 = down := add_eq_ofNat_mod s.hl (-1)
  refine ⟨?_, ?_, ?_, ?_⟩
  · rw [exec_ldAtHlIncA, write8_eq, moveHl_eq, setPair_onBus, hup]
  · rw [exec_ldAtHlDecA, write8_eq, moveHl_eq, setPair_onBus, hdown]
  · rw [exec_ldAAtHlInc, ldRegMem_eq, moveHl_eq, setPair_onBus, hup]
  · rw [exec_ldAAtHlDec, ldRegMem_eq, moveHl_eq, setPair_onBus, hdown]

end Sys2Proof.Machine
end

section
/-! SUPPORT. The 16-bit loads that make no stack transfer, and the sum of SP and a signed displacement (rules R109 to R111,
R116, R160): each obligation from the form's row in `Laws/Exec` and the closed form of its operation in `Laws/Effects`. -/

namespace Sys2Proof.Machine

/-- Settles O26: the second byte of SP goes to the next address, which is one more modulo 65536. -/
theorem sixteenBitLoads : Obligations.SixteenBitLoads := by
  intro p nn s
  refine ⟨exec_ofLdPairNn p nn s, ?_, ?_⟩
  · rw [exec_ldSpHl, internal_eq, setPair_onBus]
    rfl
  · have hnext : nn + 1 = BitVec.ofNat 16 ((nn.toNat + 1) % 65536) := add_eq_ofNat_mod nn 1
    rw [exec_ldAtNnSp, write8_eq, write8_eq, onBus_onBus, hnext]

/-- A word plus a sign-extended byte is the sum of the word's value and the byte's signed value, modulo 65536 (rule R10). -/
theorem add_sext8_eq_ofInt (a : Word) (e : Byte) : a + sext8 e = BitVec.ofInt 16 ((a.toNat : Int) + e.toInt) := by
  rw [BitVec.ofInt_add, BitVec.ofInt_natCast, BitVec.ofNat_toNat, BitVec.setWidth_eq]
  rfl

/-- Settles O30: `spPlusOp` gives the flags, and its word is the signed sum. -/
theorem spPlusDisplacement : Obligations.SpPlusDisplacement := by
  intro e s sum flags
  have hsum : spPlusOp s.sp e = (sum, flags) := Prod.ext (add_sext8_eq_ofInt s.sp e) rfl
  constructor
  · rw [exec_ldHlSpE, ldHlSpPlus_eq, hsum]
    rfl
  · rw [exec_addSpE, addSp_eq, hsum]

end Sys2Proof.Machine
end

section
/-! SUPPORT. The 8-bit arithmetic, logic and accumulator rotates (rules R117 to R156): the model's data paths are the
spec's second forms, and each obligation follows from that and the form's row in `Laws/Exec`. -/

namespace Sys2Proof.Machine

/-! ## The half carry and the zero test -/

/-- The parity of a sum is the exclusive or of the parities. -/
theorem decide_odd_xor (x y : Nat) :
    (decide (x % 2 = 1) ^^ decide (y % 2 = 1)) = decide ((x + y) % 2 = 1) := by
  rcases Nat.mod_two_eq_zero_or_one x with hx | hx <;> rcases Nat.mod_two_eq_zero_or_one y with hy | hy <;>
    simp [Nat.add_mod, hx, hy]

/-- The half-carry test of rules R117, R118 and R157: bit `k` of `a ^ b ^ r` is the parity of the sum of the three
numbers shifted right by `k`. A sum or difference `r` of `a` and `b` makes it odd exactly where a carry or a borrow comes into
bit `k`. -/
theorem xor_and_two_pow_ne_zero (k a b r : Nat) :
    (((a ^^^ b ^^^ r) &&& 2 ^ k) != 0) = decide ((a / 2 ^ k + b / 2 ^ k + r / 2 ^ k) % 2 = 1) := by
  have hbit (n : Nat) : ((n &&& 2 ^ k) != 0) = n.testBit k := by
    rw [Nat.and_two_pow]
    cases n.testBit k <;> simp
  rw [hbit, Nat.testBit_xor, Nat.testBit_xor]
  simp only [Nat.testBit_eq_decide_div_mod_eq, decide_odd_xor]

/-- Z of a byte. -/
theorem byte_beq_zero (v : Byte) : (v == 0) = decide (v.toNat = 0) := by
  rw [Bool.eq_iff_iff, beq_iff_eq, decide_eq_true_eq, ← BitVec.toNat_inj]
  rfl

/-- Z of a result that is a number modulo 256. -/
theorem ofInt_beq_zero (r : Int) : (BitVec.ofInt 8 r == 0) = decide (r % 256 = 0) := by
  rw [byte_beq_zero, BitVec.toNat_ofInt, decide_eq_decide]
  omega

/-! ## The adder and the subtractor (rules R117, R118) -/

theorem addOp_eq_sumOf (a b : Byte) {cin : Nat} (hcin : cin ≤ 1) : addOp a b cin = sumOf a b cin := by
  have hhalf := xor_and_two_pow_ne_zero 4 a.toNat b.toNat (a.toNat + b.toNat + cin)
  simp only [addOp, sumOf, Prod.mk.injEq, Flags.mk.injEq, true_and, and_true]
  refine ⟨rfl, hhalf.trans (decide_eq_decide.mpr ?_)⟩
  omega

theorem subOp_eq_differenceOf (a b : Byte) {cin : Nat} (hcin : cin ≤ 1) : subOp a b cin = differenceOf a b cin := by
  have ha := a.isLt
  have hb := b.isLt
  have hhalf := xor_and_two_pow_ne_zero 4 a.toNat b.toNat ((((a.toNat : Int) - b.toNat - cin) % 4294967296).toNat)
  simp only [subOp, differenceOf, Prod.mk.injEq, Flags.mk.injEq, true_and]
  refine ⟨?_, ?_, hhalf.trans (decide_eq_decide.mpr ?_), decide_eq_decide.mpr ?_⟩
  · apply BitVec.eq_of_toNat_eq
    rw [BitVec.toNat_ofNat, BitVec.toNat_ofInt]
    omega
  · rw [beq_eq_decide, decide_eq_decide]
    omega
  · omega
  · omega

theorem b2n_le_one (x : Bool) : b2n x ≤ 1 := by cases x <;> decide

/-! ## The operand forms of the ALU groups (rules R119 to R143) -/

/-- The state with a result in A and its flags, as the ALU groups, DAA and the accumulator rotates leave it. -/
def State.setResult (s : State) (x : Byte × Flags) : State :=
  { s with regs := { s.regs with a := x.1 }, flags := x.2 }

theorem aluByte_eq (op : AluOp) (b : Byte) (s : State) :
    aluByte op b s = s.setResult (aluOp op s.regs.a b s.flags) := rfl

theorem onA_eq (f : Byte → Flags → Byte × Flags) (s : State) : onA f s = s.setResult (f s.regs.a s.flags) := rfl

/-- The three operand forms of an ALU operation: what it does with a byte, it does with a register, with an immediate and
with the byte at HL, after the read. -/
theorem exec_alu_forms (op : AluOp) (r : Reg8) (n : Byte) {s : State} {after : Byte → State}
    (h : ∀ b, aluByte op b s = after b) :
    exec (.ofAluReg op r) s = .next (after (s.reg r)) ∧
    exec (.ofAluN op n) s = .next (after n) ∧
    exec (.ofAluAtHl op) s =
      .next ((after (s.bus.fetchByte s.hl)).onBus (readOps s.hl (s.bus.fetchByte s.hl))) := by
  refine ⟨?_, ?_, ?_⟩
  · rw [exec_ofAluReg, aluReg_eq, h]
  · rw [exec_ofAluN, h]
  · rw [exec_ofAluAtHl, aluMem_eq, h]

/-- Settles O31: ADD and ADC are the adder with carry in 0 and the old Cf. -/
theorem addAndAdcWriteTheSum : Obligations.AddAndAdcWriteTheSum := by
  intro r n s m sum cin
  have hadd (b : Byte) : aluByte .add b s = sum b 0 := congrArg s.setResult (addOp_eq_sumOf _ _ (Nat.zero_le 1))
  have hadc (b : Byte) : aluByte .adc b s = sum b cin := congrArg s.setResult (addOp_eq_sumOf _ _ (b2n_le_one _))
  obtain ⟨addReg, addImm, addMem⟩ := exec_alu_forms .add r n hadd
  exact ⟨addReg, addImm, addMem, exec_alu_forms .adc r n hadc⟩

/-- Settles O32: SUB and SBC are the subtractor with borrow in 0 and the old Cf. -/
theorem subAndSbcWriteTheDifference : Obligations.SubAndSbcWriteTheDifference := by
  intro r n s m difference cin
  have hsub (b : Byte) : aluByte .sub b s = difference b 0 :=
    congrArg s.setResult (subOp_eq_differenceOf _ _ (Nat.zero_le 1))
  have hsbc (b : Byte) : aluByte .sbc b s = difference b cin :=
    congrArg s.setResult (subOp_eq_differenceOf _ _ (b2n_le_one _))
  obtain ⟨subReg, subImm, subMem⟩ := exec_alu_forms .sub r n hsub
  exact ⟨subReg, subImm, subMem, exec_alu_forms .sbc r n hsbc⟩

/-- Settles O33: CP takes the subtractor's flags and gives A back. -/
theorem cpWritesTheFlagsOfSubAndNoRegister : Obligations.CpWritesTheFlagsOfSubAndNoRegister := by
  intro r n s m compared
  have hcp (b : Byte) : aluByte .cp b s = compared b :=
    congrArg (fun x : Byte × Flags => s.setResult (s.regs.a, x.2)) (subOp_eq_differenceOf s.regs.a b (Nat.zero_le 1))
  exact exec_alu_forms .cp r n hcp

/-- Settles O34: each of the three is `logicOp` of its bitwise result. -/
theorem logicOperationsWriteAAndTheirFlags : Obligations.LogicOperationsWriteAAndTheirFlags := by
  intro r n s m result a
  have hlogic (v : Byte) (half : Bool) : s.setResult (logicOp v half) = result v half := rfl
  obtain ⟨andReg, andImm, andMem⟩ := exec_alu_forms .and r n fun b => hlogic (a &&& b) true
  obtain ⟨xorReg, xorImm, xorMem⟩ := exec_alu_forms .xor r n fun b => hlogic (a ^^^ b) false
  exact ⟨andReg, andImm, andMem, xorReg, xorImm, xorMem, exec_alu_forms .or r n fun b => hlogic (a ||| b) false⟩

/-! ## INC and DEC (rules R144 to R147) -/

/-- A sum of bytes is the sum of their values modulo 256. -/
theorem byte_add_eq_ofNat_mod (v d : Byte) : v + d = BitVec.ofNat 8 ((v.toNat + d.toNat) % 256) := by
  apply BitVec.eq_of_toNat_eq
  rw [BitVec.toNat_add, BitVec.toNat_ofNat, Nat.mod_mod]

theorem incOp_eq (v : Byte) (f : Flags) :
    incOp v f =
      (BitVec.ofNat 8 ((v.toNat + 1) % 256),
       { f with z := decide ((v.toNat + 1) % 256 = 0), n := false, h := decide (v.toNat % 16 = 15) }) := by
  have hv : v + 1 = BitVec.ofNat 8 ((v.toNat + 1) % 256) := byte_add_eq_ofNat_mod v 1
  rw [incOp, hv, byte_beq_zero, BitVec.toNat_ofNat, Nat.mod_mod]
  rfl

theorem decOp_eq (v : Byte) (f : Flags) :
    decOp v f =
      (BitVec.ofNat 8 ((v.toNat + 255) % 256),
       { f with z := decide ((v.toNat + 255) % 256 = 0), n := true, h := decide (v.toNat % 16 = 0) }) := by
  have hv : v - 1 = BitVec.ofNat 8 ((v.toNat + 255) % 256) :=
    (BitVec.sub_eq_add_neg v 1).trans (byte_add_eq_ofNat_mod v (-1))
  rw [decOp, hv, byte_beq_zero, BitVec.toNat_ofNat, Nat.mod_mod]
  rfl

/-- Settles O35: the register form and the form at HL use one data path each. -/
theorem incAndDecOfAByte : Obligations.IncAndDecOfAByte := by
  intro r s m up down upFlags downFlags
  have hinc (v : Byte) : incOp v s.flags = (up v, upFlags v) := incOp_eq v s.flags
  have hdec (v : Byte) : decOp v s.flags = (down v, downFlags v) := decOp_eq v s.flags
  refine ⟨?_, ?_, ?_, ?_⟩
  · rw [exec_ofIncReg, stepReg, hinc]
  · rw [exec_ofDecReg, stepReg, hdec]
  · rw [exec_incAtHl, stepMem_eq, hinc]
  · rw [exec_decAtHl, stepMem_eq, hdec]

/-! ## CPL, SCF and CCF (rules R149 to R151) -/

/-- Settles O37: the complement of a byte is 255 less the byte. -/
theorem cplScfAndCcf : Obligations.CplScfAndCcf := by
  intro s
  refine ⟨?_, exec_scf s, exec_ccf s⟩
  have hnot : ~~~s.regs.a = BitVec.ofNat 8 (255 - s.regs.a.toNat) := by
    apply BitVec.eq_of_toNat_eq
    rw [BitVec.toNat_not, BitVec.toNat_ofNat]
    omega
  rw [exec_cpl, cpl, hnot]

/-! ## DAA (rule R148) -/

theorem byte_add_eq_ofInt (a b : Byte) : a + b = BitVec.ofInt 8 ((a.toNat : Int) + b.toNat) := by
  rw [BitVec.ofInt_add, BitVec.ofInt_natCast, BitVec.ofInt_natCast, BitVec.ofNat_toNat, BitVec.ofNat_toNat,
    BitVec.setWidth_eq, BitVec.setWidth_eq]

theorem byte_sub_eq_ofInt (a b : Byte) : a - b = BitVec.ofInt 8 ((a.toNat : Int) - b.toNat) := by
  rw [Int.sub_eq_add_neg, BitVec.ofInt_add, BitVec.ofInt_neg, BitVec.ofInt_natCast, BitVec.ofInt_natCast,
    BitVec.ofNat_toNat, BitVec.ofNat_toNat, BitVec.setWidth_eq, BitVec.setWidth_eq, BitVec.sub_eq_add_neg]

/-- The byte DAA adds or subtracts, by its two corrections. -/
def daaFix (high low : Bool) : Byte := (if high then 0x60 else 0x00) + (if low then 0x06 else 0x00)

theorem toNat_daaFix (high low : Bool) :
    ((daaFix high low).toNat : Int) = (if high then 0x60 else 0) + (if low then 0x06 else 0) := by
  cases high <;> cases low <;> rfl

/-- Where N is set, the comparisons of A with 0x99 and 9 do not count; so one condition for each correction serves both
directions. -/
theorem daaOp_eq (a : Byte) (f : Flags) :
    let high := f.c || (!f.n && decide (a.toNat > 0x99))
    let low := f.h || (!f.n && decide (a.toNat % 16 > 0x09))
    let r := if f.n then a - daaFix high low else a + daaFix high low
    daaOp a f = (r, { z := r == 0, n := f.n, h := false, c := high }) := by
  obtain ⟨z, n, h, c⟩ := f
  cases n <;> simp [daaOp, daaFix]

/-- Settles O36: the byte DAA gives is the corrected number modulo 256, and Z tests that number. -/
theorem daaCorrectsTheAccumulator : Obligations.DaaCorrectsTheAccumulator := by
  intro s a f high low r
  let highFix : Bool := f.c || (!f.n && decide (a > 0x99))
  let lowFix : Bool := f.h || (!f.n && decide (a % 16 > 0x09))
  have hhigh : high = if highFix then 0x60 else 0 := by simp [high, highFix]
  have hlow : low = if lowFix then 0x06 else 0 := by simp [low, lowFix]
  have hr : (if f.n then s.regs.a - daaFix highFix lowFix else s.regs.a + daaFix highFix lowFix) =
      BitVec.ofInt 8 r := by
    rw [byte_sub_eq_ofInt, byte_add_eq_ofInt, toNat_daaFix, ← hhigh, ← hlow, ← Int.sub_sub,
      ← Int.add_assoc, ← apply_ite]
  rw [exec_daa, onA_eq, daaOp_eq, hr, ofInt_beq_zero]
  rfl

/-! ## The rotates and shifts as arithmetic (rules R152 to R156, R182 to R197) -/

/-- Where one byte is a multiple of a power of two and the other lies below that power, `|||` adds them. -/
theorem toNat_or_of_lt {x y : Byte} {i k : Nat} (hx : x.toNat = 2 ^ i * k) (hy : y.toNat < 2 ^ i) :
    (x ||| y).toNat = x.toNat + y.toNat := by
  rw [BitVec.toNat_or, hx, Nat.two_pow_add_eq_or_of_lt hy]

theorem toNat_byte_shiftLeft (v : Byte) (k : Nat) : (v <<< k).toNat = v.toNat * 2 ^ k % 256 := by
  rw [BitVec.toNat_shiftLeft, Nat.shiftLeft_eq]

theorem toNat_byte_shiftRight (v : Byte) (k : Nat) : (v >>> k).toNat = v.toNat / 2 ^ k := by
  rw [BitVec.toNat_ushiftRight, Nat.shiftRight_eq_div_pow]

theorem toNat_bit0 (x : Bool) : (bit0 x).toNat = b2n x := by cases x <;> rfl

theorem toNat_bit7 (x : Bool) : (bit7 x).toNat = 2 ^ 7 * b2n x := by cases x <;> rfl

theorem getLsbD_zero_eq_decide (v : Byte) : v.getLsbD 0 = decide (v.toNat % 2 = 1) := Nat.testBit_zero v.toNat

theorem getLsbD_seven_eq_decide (v : Byte) : v.getLsbD 7 = decide (v.toNat / 128 = 1) := by
  have hv := v.isLt
  refine Nat.testBit_eq_decide_div_mod_eq.trans (decide_eq_decide.mpr ?_)
  omega

theorem b2n_decide_eq_one {n : Nat} (h : n ≤ 1) : b2n (decide (n = 1)) = n := by
  interval_cases n <;> rfl

theorem b2n_getLsbD_zero (v : Byte) : b2n (v.getLsbD 0) = v.toNat % 2 := by
  rw [getLsbD_zero_eq_decide, b2n_decide_eq_one (Nat.le_of_lt_succ (Nat.mod_lt _ (by decide)))]

theorem b2n_getLsbD_seven (v : Byte) : b2n (v.getLsbD 7) = v.toNat / 128 := by
  have hv := v.isLt
  rw [getLsbD_seven_eq_decide, b2n_decide_eq_one (by omega)]

/-- A shift left with a bit moved into bit 0. -/
theorem toNat_shiftLeft_or_bit0 (v : Byte) (x : Bool) : ((v <<< 1) ||| bit0 x).toNat = v.toNat * 2 % 256 + b2n x := by
  have hleft := toNat_byte_shiftLeft v 1
  have hx := toNat_bit0 x
  have hle := b2n_le_one x
  rw [toNat_or_of_lt (i := 1) (k := v.toNat % 128)] <;> omega

/-- A shift right with a bit moved into bit 7. -/
theorem toNat_shiftRight_or_bit7 (v : Byte) (x : Bool) : ((v >>> 1) ||| bit7 x).toNat = v.toNat / 2 + b2n x * 128 := by
  have hright := toNat_byte_shiftRight v 1
  have hx := toNat_bit7 x
  have hv := v.isLt
  rw [BitVec.or_comm, toNat_or_of_lt hx] <;> omega

theorem toNat_swapNibbles (v : Byte) : ((v <<< 4) ||| (v >>> 4)).toNat = v.toNat % 16 * 16 + v.toNat / 16 := by
  have hleft := toNat_byte_shiftLeft v 4
  have hright := toNat_byte_shiftRight v 4
  have hv := v.isLt
  rw [toNat_or_of_lt (i := 4) (k := v.toNat % 16)] <;> omega

theorem and_0x80_eq_bit7 (v : Byte) : v &&& 0x80 = bit7 (v.getLsbD 7) := by
  apply BitVec.eq_of_toNat_eq
  have hand : v.toNat &&& 2 ^ 7 = b2n (v.getLsbD 7) * 2 ^ 7 := by
    rw [Nat.and_two_pow, BitVec.getLsbD]
    cases v.toNat.testBit 7 <;> rfl
  rw [toNat_bit7, Nat.mul_comm, ← hand]
  rfl

/-- The data path of every rotate and shift is the spec's arithmetic on the byte's value. -/
theorem rotData_toNat (op : RotOp) (v : Byte) (cin : Bool) :
    ((rotData op v cin).1.toNat, (rotData op v cin).2) = rotatedOf op v.toNat (b2n cin) := by
  cases op <;> simp only [rotData, rotatedOf]
  case rlc => rw [toNat_shiftLeft_or_bit0, b2n_getLsbD_seven, getLsbD_seven_eq_decide]
  case rrc => rw [toNat_shiftRight_or_bit7, b2n_getLsbD_zero, getLsbD_zero_eq_decide]
  case rl => rw [toNat_shiftLeft_or_bit0, getLsbD_seven_eq_decide]
  case rr => rw [toNat_shiftRight_or_bit7, getLsbD_zero_eq_decide]
  case sla => rw [toNat_byte_shiftLeft, getLsbD_seven_eq_decide, pow_one]
  case sra => rw [and_0x80_eq_bit7, toNat_shiftRight_or_bit7, b2n_getLsbD_seven, getLsbD_zero_eq_decide]
  case swap => rw [toNat_swapNibbles]
  case srl => rw [toNat_byte_shiftRight, getLsbD_zero_eq_decide, pow_one]

theorem rotData_eq_rotatedOf (op : RotOp) (v : Byte) (cin : Bool) :
    rotData op v cin =
      (BitVec.ofNat 8 (rotatedOf op v.toNat (b2n cin)).1, (rotatedOf op v.toNat (b2n cin)).2) := by
  rw [← rotData_toNat, BitVec.ofNat_toNat, BitVec.setWidth_eq]

/-- Settles O38: every accumulator rotate is its data path under flags that clear Z. -/
theorem accumulatorRotatesClearZ : Obligations.AccumulatorRotatesClearZ := by
  intro s rotated
  have hrot (op : RotOp) : .next (onA (rotOpA op) s) = rotated op := by
    rw [onA_eq, rotOpA, rotData_eq_rotatedOf]
    rfl
  refine ⟨?_, ?_, ?_, ?_⟩
  · rw [exec_rlca, hrot]
  · rw [exec_rla, hrot]
  · rw [exec_rrca, hrot]
  · rw [exec_rra, hrot]

end Sys2Proof.Machine
end

section
/-! SUPPORT. The 16-bit arithmetic on register pairs (rules R157 to R159): the adder's data path as arithmetic on the values
of its words, and the obligations of the family, each from the form's row in `Laws/Exec` and the closed form of its operation
in `Laws/Effects`. -/

namespace Sys2Proof.Machine

/-! ## ADD HL,rr (rule R157) -/

/-- The word adder in the rule's terms: the sum modulo 65536, and the carries out of bits 11 and 15. -/
theorem add16Op_eq (a b : Word) (f : Flags) :
    add16Op a b f =
      (BitVec.ofNat 16 ((a.toNat + b.toNat) % 65536),
       { z := f.z
         n := false
         h := decide (a.toNat % 4096 + b.toNat % 4096 > 0x0FFF)
         c := decide (a.toNat + b.toNat > 0xFFFF) }) := by
  have hsum : BitVec.ofNat 16 (a.toNat + b.toNat) = BitVec.ofNat 16 ((a.toNat + b.toNat) % 65536) := by
    apply BitVec.eq_of_toNat_eq
    rw [BitVec.toNat_ofNat, BitVec.toNat_ofNat, Nat.mod_mod]
  have hhalf := xor_and_two_pow_ne_zero 12 a.toNat b.toNat (a.toNat + b.toNat)
  simp only [add16Op, Prod.mk.injEq, Flags.mk.injEq, true_and, and_true]
  refine ⟨hsum, hhalf.trans (decide_eq_decide.mpr ?_)⟩
  omega

/-- Settles O39: the closed form of `addHl` with the adder's arithmetic in it; the flags and the pair are separate fields. -/
theorem addHlPairKeepsZ : Obligations.AddHlPairKeepsZ := by
  intro p s a b
  rw [exec_ofAddHlPair, addHl_eq, add16Op_eq]
  rfl

/-! ## INC rr and DEC rr (rules R158, R159) -/

/-- Settles O40: a step by 1 or -1 adds 1 or 65535 modulo 65536. -/
theorem incAndDecOfAPairWriteNoFlag : Obligations.IncAndDecOfAPairWriteNoFlag := by
  intro p s v
  have hinc : s.pair p + 1 = BitVec.ofNat 16 ((v + 1) % 65536) := add_eq_ofNat_mod (s.pair p) 1
  have hdec : s.pair p + -1 = BitVec.ofNat 16 ((v + 65535) % 65536) := add_eq_ofNat_mod (s.pair p) (-1)
  constructor
  · rw [exec_ofIncPair, stepPair_eq, hinc]
  · rw [exec_ofDecPair, stepPair_eq, hdec]

end Sys2Proof.Machine
end

section
/-! SUPPORT. Jumps, calls, restarts and returns (rules R161 to R172): each obligation from the form's row in `Laws/Exec`, the
closed form of its operation in `Laws/Effects`, and which way its condition goes. -/

namespace Sys2Proof.Machine

/-! ## Jumps (rules R161 to R166) -/

theorem jumpIf_taken (cc : Cond) (target : Word) (s : State) (h : s.cond cc = true) :
    jumpIf cc target s = State.onBus (tickOps 4) { s with pc := target } := by
  rw [jumpIf_eq, if_pos h, if_pos h]

theorem jumpIf_notTaken (cc : Cond) (target : Word) (s : State) (h : s.cond cc = false) : jumpIf cc target s = s := by
  rw [jumpIf, h, if_neg Bool.false_ne_true]

/-- Settles O41: the target is an operand of the form, or HL. -/
theorem absoluteJumps : Obligations.AbsoluteJumps := by
  intro cc nn s
  refine ⟨?_, fun h => ?_, fun h => ?_, exec_jpHl s, rfl, rfl, rfl, rfl⟩
  · rw [exec_jpNn, jump_eq]
  · rw [exec_ofJp, jumpIf_taken cc nn s h]
  · rw [exec_ofJp, jumpIf_notTaken cc nn s h]

/-- Settles O42: the target is PC plus the sign-extended displacement, which is the signed sum modulo 65536. -/
theorem relativeJumps : Obligations.RelativeJumps := by
  intro cc e s target
  have htarget : s.pc + sext8 e = target := add_sext8_eq_ofInt s.pc e
  refine ⟨?_, fun h => ?_, fun h => ?_⟩
  · rw [exec_jrE, jump_eq, htarget]
  · rw [exec_ofJr, jumpIf_taken cc _ s h, htarget]
  · rw [exec_ofJr, jumpIf_notTaken cc _ s h]

/-! ## Calls and restarts (rules R167, R168, R172) -/

/-- Settles O43: every one of these forms is a call of its target, where its condition holds. -/
theorem callsAndRestartsPushTheReturnAddress : Obligations.CallsAndRestartsPushTheReturnAddress := by
  intro cc nn y s called
  have hcall (target : Word) : .next (call target s) = called target := by rw [call_eq]
  refine ⟨?_, fun h => ?_, fun h => ?_, ?_⟩
  · rw [exec_callNn, hcall]
  · rw [exec_ofCall, callIf, if_pos h, hcall]
  · rw [exec_ofCall, callIf, h, if_neg Bool.false_ne_true]
  · rw [exec_ofRst, hcall]

/-! ## Returns (rules R169 to R171) -/

/-- A return after some bus operations reads the stack on the bus that they leave. -/
theorem returnFrom_onBus (before : List BusOp) (s : State) :
    returnFrom (s.onBus before) =
      State.onBus (before ++ returnOps (s.onBus before))
        { s with sp := s.sp + 2, pc := (pop16 (s.onBus before)).1 } := by
  rw [returnFrom_eq, ← onBus_onBus { s with sp := s.sp + 2, pc := (pop16 (s.onBus before)).1 }]
  rfl

/-- Bus operations leave IME and PEND alone. -/
theorem enable_onBus (ops : List BusOp) (s : State) :
    { s.onBus ops with ime := true, pend := false } = State.onBus ops { s with ime := true, pend := false } := rfl

/-- Settles O44: every one of these forms is a return from the state after the operations before its pops: none, or the
internal M-cycle of the test. -/
theorem returnsPopPc : Obligations.ReturnsPopPc := by
  intro cc s returned
  have hreturned (before : List BusOp) (t : State) : returned before t =
      .next (State.onBus (before ++ returnOps (s.onBus before))
        { t with sp := s.sp + 2, pc := (pop16 (s.onBus before)).1 }) := by
    rw [pop16_fst, returnOps, ← List.append_assoc, ← List.append_assoc]
    rfl
  refine ⟨?_, ?_, fun h => ?_, fun h => ?_⟩
  · rw [exec_ret, hreturned, ← returnFrom_onBus, onBus_nil]
  · rw [exec_reti, hreturned, onBus_nil, returnFrom_eq, enable_onBus]
    rfl
  · rw [exec_ofRet, returnIf_taken cc s h, hreturned, returnFrom_onBus]
  · rw [exec_ofRet, returnIf_notTaken cc s h]

end Sys2Proof.Machine
end

section
/-! SUPPORT. The system instructions and the escape (rules R173 to R179): each obligation from the instruction's row in
`Laws/Exec` and what its operation does in each of its cases. -/

namespace Sys2Proof.Machine

/-! ## The escape (rule R178) -/

/-- Settles O7: the row runs in the state the escape's fetch leaves, and every row completes. -/
theorem escapeRunsTheRowOfItsSecondByte : Obligations.EscapeRunsTheRowOfItsSecondByte := by
  intro s
  obtain ⟨t, ht⟩ := exec_completes .prefixCb s
  have hrow := ht
  rw [exec_prefixCb, fetch8_fst, fetch8_snd] at hrow
  exact ⟨t, ht, hrow⟩

/-! ## NOP, DI and EI (rules R173, R176, R177) -/

theorem ei_disabled (s : State) (h : s.ime = false) : ei s = { s with pend := true } := by
  rw [ei, h, if_neg Bool.false_ne_true]

theorem ei_enabled (s : State) (h : s.ime = true) : ei s = s := by rw [ei, if_pos h]

/-- Settles O15: EI goes by IME as it was before it. -/
theorem nopDiAndEi : Obligations.NopDiAndEi := by
  intro s
  refine ⟨exec_nop s, exec_di s, fun h => ?_, fun h => ?_⟩
  · rw [exec_ei, ei_disabled s h]
  · rw [exec_ei, ei_enabled s h]

/-! ## Fatal outcomes (rules R89, R174, R179) -/

/-- A fatal outcome writes its record and nothing else (rule R89). -/
theorem raiseFatal_eq (k : FatalKind) (op : Byte) (s : State) :
    raiseFatal k op s = { s with fatal := some ⟨k, op, s.opaddr⟩ } := rfl

/-- Settles O16: STOP raises the fatal outcome of its opcode. -/
theorem stopRecordsAFatalOutcome : Obligations.StopRecordsAFatalOutcome := by
  intro s
  rw [exec_stop, raiseFatal_eq]

/-- Settles O17: each illegal byte's row raises a decode failure with that byte. -/
theorem illegalOpcodesRecordADecodeFailure : Obligations.IllegalOpcodesRecordADecodeFailure := by
  intro s failure
  have hfailure (op : Byte) : .next (raiseFatal .decodeFailure op s) = failure op := by rw [raiseFatal_eq]
  simp only [← hfailure]
  exact ⟨exec_illegalD3 s, exec_illegalDB s, exec_illegalDD s, exec_illegalE3 s, exec_illegalE4 s, exec_illegalEB s,
    exec_illegalEC s, exec_illegalED s, exec_illegalF4 s, exec_illegalFC s, exec_illegalFD s⟩

/-! ## HALT (rule R175) -/

/-- Settles O18: HALT peeks only with IME clear and HALT_BUG, and then goes by the interrupt it sees. -/
theorem haltHaltsOrSetsTheHaltBug : Obligations.HaltHaltsOrSetsTheHaltBug := by
  intro s
  refine ⟨fun h => ?_, fun hi hb hn => ?_, fun it hi hb hn => ?_⟩
  · rw [exec_halt, halt_halts s h]
  · rw [exec_halt, halt_quiet s hb hi hn]
  · rw [exec_halt, halt_bug s it hb hi hn]

end Sys2Proof.Machine
end

section
/-! SUPPORT. The extended table (rules R180 to R203): its data paths as the spec's arithmetic and the laws of single bits, and
each obligation from the form's row in `Laws/Exec` and the closed form of its operation in `Laws/Effects`. -/

namespace Sys2Proof.Machine

/-! ## Rotates, shifts and SWAP (rules R180 to R197) -/

/-- `RotOp` in the spec's arithmetic: the number that Z tests is the byte's value (rule R180). -/
theorem rotOp_eq_rotatedOf (op : RotOp) (v : Byte) (f : Flags) :
    let x := rotatedOf op v.toNat (b2n f.c)
    rotOp op v f = (BitVec.ofNat 8 x.1, ⟨decide (x.1 = 0), false, false, x.2⟩) := by
  intro x
  have hz : ((rotData op v f.c).1 == 0) = decide (x.1 = 0) := by
    have hvalue : (rotData op v f.c).1.toNat = x.1 := congrArg Prod.fst (rotData_toNat op v f.c)
    rw [byte_beq_zero, hvalue]
  rw [rotOp, hz, rotData_eq_rotatedOf]

/-- Settles O45: the register's byte goes through `rotOp`. -/
theorem cbRotatesOfARegister : Obligations.CbRotatesOfARegister := by
  intro op r s x
  rw [exec_ofRotReg, rotReg, rotOp_eq_rotatedOf]
  rfl

/-- Settles O46: the byte read at HL goes through `rotOp` and is written back there. -/
theorem cbRotatesOfTheByteAtHl : Obligations.CbRotatesOfTheByteAtHl := by
  intro op s b x
  rw [exec_ofRotAtHl, rotMem_eq, rotOp_eq_rotatedOf]
  rfl

/-! ## BIT (rules R198, R199) -/

theorem bitFlags_eq (b : Fin 8) (v : Byte) (f : Flags) :
    bitFlags b v f = ⟨decide (v.toNat / 2 ^ b.val % 2 = 0), false, true, f.c⟩ := by
  have hbit : v.getLsbD b.val = decide (v.toNat / 2 ^ b.val % 2 = 1) := Nat.testBit_eq_decide_div_mod_eq
  have hz : (!decide (v.toNat / 2 ^ b.val % 2 = 1)) = decide (v.toNat / 2 ^ b.val % 2 = 0) := by
    rw [← decide_not, decide_eq_decide]
    exact Nat.mod_two_ne_one
  rw [bitFlags, hbit, hz]

/-- Settles O47: both forms write `bitFlags` of their byte, and the parameter gives the operations of the one at HL. -/
theorem bitTestsABitAndWritesOnlyFlags : Obligations.BitTestsABitAndWritesOnlyFlags := by
  intro b r s m tested
  have htested (v : Byte) : { s with flags := bitFlags b v s.flags } = tested v := by rw [bitFlags_eq]
  refine ⟨?_, fun h => ?_, fun h => ?_⟩
  · rw [exec_ofBitReg, bitReg, htested]
  · rw [exec_ofBitAtHl, bitMem_sixteen b s h, htested]
  · rw [exec_ofBitAtHl, bitMem_twelve b s h, htested]

/-! ## RES and SET (rules R200 to R203) -/

/-- The mask of bit `b`. -/
theorem getLsbD_one_shiftLeft (b : Fin 8) (k : Nat) :
    ((0x01 : Byte) <<< b.val).getLsbD k = decide (k = b.val) := by
  have hmask : (0x01 : Byte) <<< b.val = BitVec.twoPow 8 b.val := rfl
  rw [hmask, BitVec.getLsbD_twoPow]
  simp [eq_comm]

theorem getLsbD_resBit (b : Fin 8) (v : Byte) {k : Nat} (hk : k < 8) :
    (resBit b v).getLsbD k = (v.getLsbD k && decide (k ≠ b.val)) := by
  rw [resBit, BitVec.getLsbD_and, BitVec.getLsbD_not, getLsbD_one_shiftLeft]
  simp [hk]

theorem getLsbD_setBit (b : Fin 8) (v : Byte) (k : Nat) :
    (setBit b v).getLsbD k = (v.getLsbD k || decide (k = b.val)) := by
  rw [setBit, BitVec.getLsbD_or, getLsbD_one_shiftLeft]

/-- Settles O48: the two changes are `resBit` and `setBit`, in a register and, by `changeMem`, at HL. -/
theorem resAndSetChangeOneBitAndNoFlag : Obligations.ResAndSetChangeOneBitAndNoFlag := by
  intro b r s m
  refine ⟨resBit b, setBit b, fun v k hk => ⟨getLsbD_resBit b v hk, getLsbD_setBit b v k⟩, exec_ofResReg b r s,
    exec_ofSetReg b r s, ?_, ?_⟩
  · rw [exec_ofResAtHl, changeMem_eq]
  · rw [exec_ofSetAtHl, changeMem_eq]

end Sys2Proof.Machine
end

section
/-! SUPPORT. Interrupts (rules R204 to R208): their order, where a condition is raised and cleared, the entry, and the
enable latency. -/

namespace Sys2Proof.Machine

/-! ## Sources (rule R204) -/

/-- The bus reports a source that is pending and enabled (rule R43). -/
def Bus.reports (b : Bus) (it : IntSource) : Bool := b.pending.has it && b.enabled.has it

theorem find?_cons_eq_ite {α : Type} (p : α → Bool) (a : α) (l : List α) :
    (a :: l).find? p = if p a then some a else l.find? p := by
  cases h : p a <;> simp [h]

/-- The answer of `next_interrupt()`, source by source. -/
theorem nextInterrupt_eq (b : Bus) :
    b.nextInterrupt =
      if b.reports .vblank then some .vblank
      else if b.reports .lcdstat then some .lcdstat
      else if b.reports .timer then some .timer
      else if b.reports .serial then some .serial
      else if b.reports .joypad then some .joypad
      else none := by
  have hfind : b.nextInterrupt = IntSource.byPriority.find? b.reports := rfl
  simp only [hfind, IntSource.byPriority, find?_cons_eq_ite, List.find?_nil]

/-- Settles O11: the answer is the first source of the list that the bus reports. -/
theorem interruptsHaveFixedVectorsAndStrictPriority : Obligations.InterruptsHaveFixedVectorsAndStrictPriority := by
  refine ⟨rfl, rfl, rfl, rfl, rfl, fun b it => ?_⟩
  have hactive (x : IntSource) : b.pending.has x = true ∧ b.enabled.has x = true ↔ b.reports x = true :=
    (Bool.and_eq_true_iff).symm
  simp only [hactive, nextInterrupt_eq]
  split_ifs <;> cases it <;> simp [*]

/-! ## Raise and Clear (rule R205) -/

/-- A tick alone raises a condition. -/
theorem pending_perform_of_ne_step (b : Bus) {op : BusOp} (x : IntSource) (h : op ≠ .step)
    (hx : b.pending.has x = false) : (b.perform op).pending.has x = false := by
  cases op with
  | fetchByte a v => rwa [Bus.perform, Bus.afterFetch, pending_react]
  | storeByte a v => rwa [Bus.perform, Bus.storeByte, pending_react]
  | step => exact absurd rfl h
  | nextInterrupt it => exact hx
  | nextInterruptAck it =>
    cases hn : b.nextInterrupt with
    | none => rwa [Bus.perform, acknowledge_none b hn]
    | some it => simp [Bus.perform, acknowledge_some hn, hx]

/-- The acknowledge alone clears a condition. -/
theorem pending_perform_of_ne_ack (b : Bus) {op : BusOp} (x : IntSource) (h : ∀ it, op ≠ .nextInterruptAck it)
    (hx : b.pending.has x = true) : (b.perform op).pending.has x = true := by
  cases op with
  | fetchByte a v => rwa [Bus.perform, Bus.afterFetch, pending_react]
  | storeByte a v => rwa [Bus.perform, Bus.storeByte, pending_react]
  | step => exact pending_step b x hx
  | nextInterrupt it => exact hx
  | nextInterruptAck it => exact absurd rfl (h it)

theorem pending_replay (ops : List BusOp) (b : Bus) (x : IntSource) (h : ∀ it, .nextInterruptAck it ∉ ops)
    (hx : b.pending.has x = true) : (b.replay ops).pending.has x = true := by
  induction ops generalizing b with
  | nil => exact hx
  | cons op ops ih =>
    rw [replay_cons]
    refine ih _ (fun it hit => h it (List.mem_cons_of_mem _ hit)) (pending_perform_of_ne_ack b x (fun it hit => ?_) hx)
    exact h it (hit ▸ List.mem_cons_self)

/-- A step's record is the acknowledge where IME is set, and then no other (rule R44). -/
theorem step_trace {s t : State} (h : step s = .next t) :
    ∃ rest : List BusOp,
      t.trace = (if s.ime then [.nextInterruptAck s.bus.nextInterrupt] else []) ++ rest ∧
      ∀ it, .nextInterruptAck it ∉ rest := by
  obtain ⟨-, -, hrecord⟩ := acknowledgeIsCalledOnceAndOnlyWithIme
  exact hrecord s t h

/-- Settles O60: what a step does after the acknowledge that opens it clears no condition, and that acknowledge clears the
one it returned. -/
theorem conditionsAreRaisedByTicksAndClearedByTheAcknowledge :
    Obligations.ConditionsAreRaisedByTicksAndClearedByTheAcknowledge := by
  refine ⟨fun b op x hb hop => ?_, fun s t x h hs ht => ?_⟩
  · by_contra hne
    simp [pending_perform_of_ne_step b x hne hb] at hop
  · obtain ⟨rest, htrace, hack⟩ := step_trace h
    obtain ⟨hbus, -, -⟩ := step_recordsFrom h
    rw [htrace, replay_append] at hbus
    have hopen (b : Bus) (hb : t.bus = b.replay rest) : b.pending.has x = false := by
      by_contra hx
      simp [hb, pending_replay rest b x hack (Bool.not_eq_false _ ▸ hx)] at ht
    cases hi : s.ime with
    | false =>
      have hcleared := hopen s.bus (by simpa [hi] using hbus)
      simp [hs] at hcleared
    | true =>
      have hcleared := hopen s.bus.acknowledge (by rw [hbus, hi]; rfl)
      cases hn : s.bus.nextInterrupt with
      | none => simp [acknowledge_none _ hn, hs] at hcleared
      | some it =>
        have hx : x = it := by simpa [acknowledge_some hn, hs] using hcleared
        exact ⟨rfl, rest, by rw [htrace, hi, hn, hx]; rfl⟩

/-! ## Entry (rule R208) -/

/-- Settles O10: the closed form of the entry, after the acknowledge; with IME set the invariant has HALTBUG clear. -/
theorem interruptEntryPushesPcAndGoesToTheVector : Obligations.InterruptEntryPushesPcAndGoesToTheVector := by
  intro s it hf hi hn t
  refine ⟨?_, ?_, fun hinv => ?_⟩
  · rw [step_finished s _ hf (beforeFetch_interrupt s it hi hn), interruptEntry_eq]
    simp [t, beginStep, State.onBus, replay_cons]
  · simp [t]
    omega
  · obtain ⟨-, -, hbug, -⟩ := hinv
    simpa [hi] using hbug

/-! ## Enable latency (rule R207) -/

/-- Of the instructions, EI, DI and RETI alone write IME or PEND. -/
theorem exec_enable_kept (i : Instr) (s t : State) (ht : exec i s = .next t) (hei : i ≠ .ei) (hdi : i ≠ .di)
    (hreti : i ≠ .reti) : t.ime = s.ime ∧ t.pend = s.pend := by
  induction i, s, t, ht using exec_byRow with
  | row i s t ht h =>
    induction i using Instr.byForm with
    | prefixCb => exact absurd h (by decide)
    | ei => exact absurd rfl hei
    | di => exact absurd rfl hdi
    | reti => exact absurd rfl hreti
    | ldAtHlDecA =>
      obtain ⟨hl, -, rfl⟩ := exec_ldAtHlDecA_next ht
      simp
    | _ =>
      simp at ht
      simp [← ht]
  | escape i cbop s t ht hrow he ih =>
    exact ih (fun h => nomatch h ▸ he) (fun h => nomatch h ▸ he) (fun h => nomatch h ▸ he)

/-- What a step makes of IME and PEND before its fetch, where it enters no interrupt: the promotion (rule R74). -/
theorem beforeFetch_enable {s : State} (h : s.noInterrupt) :
    (beforeFetch s).state.ime = (s.ime || s.pend) ∧ (beforeFetch s).state.pend = (s.ime && s.pend) := by
  obtain ⟨it, hi, hit, -⟩ | ⟨-, -, ops, hb, -⟩ | ⟨-, ops, hb, -⟩ := beforeFetch_cases s
  · simp [h hi] at hit
  · simp [hb, StepPhase.state]
  · simp [hb, StepPhase.state]

/-- Settles O57, row by row of the rule's table; a step that finds IME clear records no acknowledge, by `step_trace`. -/
theorem enableLatencyMachine : Obligations.EnableLatencyMachine := by
  refine ⟨fun s t ht => ?_, fun s t ht => ?_, fun s t ht => ?_, fun i s t hei hdi hreti ht => ?_,
    fun s t it hf hi hn ht => ?_, fun s u hn hb => ?_, fun s t hi ht it => ?_, rfl⟩
  · rw [exec_ei, ei_eq] at ht
    cases ht
    simp +contextual
  · rw [exec_di] at ht
    cases ht
    rfl
  · rw [exec_reti] at ht
    cases ht
    rfl
  · rw [Prod.mk.injEq]
    exact exec_enable_kept i s t ht hei hdi hreti
  · have hentry := (interruptEntryPushesPcAndGoesToTheVector s it hf hi hn).1
    cases hentry.symm.trans ht
    rfl
  · have hu : (beforeFetch s).state = u := by rcases hb with hb | hb <;> rw [hb] <;> rfl
    have henable := beforeFetch_enable hn
    rw [hu] at henable
    obtain ⟨hime, hpend⟩ := henable
    rw [hime, hpend]
    cases s.ime <;> cases s.pend <;> simp
  · obtain ⟨rest, htrace, hack⟩ := step_trace ht
    simpa [htrace, hi] using hack it

end Sys2Proof.Machine
end

section
/-! SUPPORT. The post-boot reset (rule R222), the completion of every instruction (rules R214, R215), and the ticks of a step
(rule R231). -/

namespace Sys2Proof.Machine

/-! ## Reset and completion -/

/-- Settles O9: under BOOT_SKIP the reset is `State.postBoot`, field by field. -/
theorem bootSkipResetIsThePostBootState : Obligations.BootSkipResetIsThePostBootState := by
  intro cfg bus h
  have hpost : State.resetWith cfg bus = State.postBoot cfg bus := if_pos h
  have hpack : Flags.pack ⟨true, false, true, true⟩ = 0xB0 := by decide
  rw [hpost]
  exact ⟨rfl, hpack, rfl, rfl, rfl, rfl, rfl, rfl, rfl, rfl, rfl, rfl, rfl, rfl, rfl, rfl, rfl, rfl, rfl⟩

/-- Settles O49: `exec_completes`, form by form and through the escape. -/
theorem everyInstructionCompletesInEveryState : Obligations.EveryInstructionCompletesInEveryState := exec_completes

/-! ## Ticks (rule R231) -/

/-- The entry of rule R231's tables for a whole instruction, found by the first two bytes of its encoding. -/
def ticksOfInstr (i : Instr) (s : State) : Nat :=
  match encode i with
  | op :: rest => ticksOf op (rest.headD 0) s
  | [] => 0

/-- An instruction of `len` bytes whose entry is `total` takes what is left of it after four ticks a byte. -/
theorem ticks_of_entry {i : Instr} {s t : State} (len total : Nat)
    (hentry : ((encode i).length, ticksOfInstr i s) = (len, total)) (ht : t.cyc + 4 * len = s.cyc + total) :
    t.cyc + 4 * (encode i).length = s.cyc + ticksOfInstr i s := by
  cases hentry
  exact ht

/-- After the ticks of its fetches, four a byte, an instruction takes the rest of its entry in the tables. -/
theorem exec_ticks (i : Instr) (s t : State) (h : i.wellFormed = true) (hcfg : s.cfg.bitHlTicks = .sixteen)
    (ht : exec i s = .next t) : t.cyc + 4 * (encode i).length = s.cyc + ticksOfInstr i s := by
  induction i using Instr.byForm with
  | prefixCb => exact absurd h (by decide)
  | nop | rlca | rrca | rla | rra | daa | cpl | scf | ccf | jpHl | halt | di | ei | stop | illegalD3 | illegalDB
  | illegalDD | illegalE3 | illegalE4 | illegalEB | illegalEC | illegalED | illegalF4 | illegalFC | illegalFD =>
    simp at ht
    exact ticks_of_entry 1 4 rfl (by simp [← ht])
  | ldRegReg dst src =>
    simp at ht
    exact ticks_of_entry 1 4 (by cases dst <;> cases src <;> rfl) (by simp [← ht])
  | aluReg op r =>
    simp at ht
    exact ticks_of_entry 1 4 (by cases op <;> cases r <;> rfl) (by simp [← ht])
  | incReg r | decReg r =>
    simp at ht
    exact ticks_of_entry 1 4 (by cases r <;> rfl) (by simp [← ht])
  | ldAtBcA | ldAAtBc | ldAtDeA | ldAAtDe | ldAtHlIncA | ldAAtHlInc | ldAAtHlDec | ldAtCA | ldAAtC | ldSpHl =>
    simp at ht
    exact ticks_of_entry 1 8 rfl (by simp [← ht])
  | ldAtHlDecA =>
    obtain ⟨hl, -, rfl⟩ := exec_ldAtHlDecA_next ht
    exact ticks_of_entry 1 8 rfl (by simp)
  | ldRegAtHl r | ldAtHlReg r | aluAtHl r | addHlPair r | incPair r | decPair r =>
    simp at ht
    exact ticks_of_entry 1 8 (by cases r <;> rfl) (by simp [← ht])
  | ldRegN r _ | aluN r _ =>
    simp at ht
    exact ticks_of_entry 2 8 (by cases r <;> rfl) (by simp [← ht])
  | incAtHl | decAtHl =>
    simp at ht
    exact ticks_of_entry 1 12 rfl (by simp [← ht])
  | ldAtHlN _ | ldhAtNA _ | ldhAAtN _ | ldHlSpE _ | jrE _ =>
    simp at ht
    exact ticks_of_entry 2 12 rfl (by simp [← ht])
  | addSpE _ =>
    simp at ht
    exact ticks_of_entry 2 16 rfl (by simp [← ht])
  | ldPairNn p _ =>
    simp at ht
    exact ticks_of_entry 3 12 (by cases p <;> rfl) (by simp [← ht])
  | ldAtNnA _ | ldAAtNn _ | jpNn _ =>
    simp at ht
    exact ticks_of_entry 3 16 rfl (by simp [← ht])
  | ldAtNnSp _ =>
    simp at ht
    exact ticks_of_entry 3 20 rfl (by simp [← ht])
  | callNn _ =>
    simp at ht
    exact ticks_of_entry 3 24 rfl (by simp [← ht])
  | pop q =>
    simp at ht
    exact ticks_of_entry 1 12 (by cases q <;> rfl) (by simp [← ht])
  | push q =>
    simp at ht
    exact ticks_of_entry 1 16 (by cases q <;> rfl) (by simp [← ht])
  | ret | reti =>
    simp at ht
    exact ticks_of_entry 1 16 rfl (by simp [← ht])
  | rst y =>
    simp at ht
    exact ticks_of_entry 1 16 (by fin_cases y <;> rfl) (by simp [← ht])
  | jrIf cc _ =>
    simp at ht
    refine ticks_of_entry 2 (if !s.cond cc then 8 else 12) (by cases cc <;> rfl) ?_
    cases hc : s.cond cc <;> simp [← ht, hc]
  | jpIf cc _ =>
    simp at ht
    refine ticks_of_entry 3 (if !s.cond cc then 12 else 16) (by cases cc <;> rfl) ?_
    cases hc : s.cond cc <;> simp [← ht, hc]
  | callIf cc _ =>
    simp at ht
    refine ticks_of_entry 3 (if !s.cond cc then 12 else 24) (by cases cc <;> rfl) ?_
    cases hc : s.cond cc <;> simp [← ht, hc]
  | retIf cc =>
    simp at ht
    refine ticks_of_entry 1 (if !s.cond cc then 8 else 20) (by cases cc <;> rfl) ?_
    cases hc : s.cond cc <;> simp [← ht, hc]
  | rotReg op r =>
    simp at ht
    exact ticks_of_entry 2 8 (by cases op <;> cases r <;> rfl) (by simp [← ht])
  | bitReg b r | resReg b r | setReg b r =>
    simp at ht
    exact ticks_of_entry 2 8 (by cases r <;> fin_cases b <;> rfl) (by simp [← ht])
  | rotAtHl op =>
    simp at ht
    exact ticks_of_entry 2 16 (by cases op <;> rfl) (by simp [← ht])
  | bitAtHl b | resAtHl b | setAtHl b =>
    simp [hcfg] at ht
    exact ticks_of_entry 2 16 (by fin_cases b <;> rfl) (by simp [← ht])

/-- The ticks of an instruction that is not the escape come from its first byte, and from the flags where it has a
condition. -/
theorem ticksOf_congr {op : Byte} {s s' : State} (h : op ≠ 0xCB) (hs : s'.flags = s.flags) (cbop cbop' : Byte) :
    ticksOf op cbop s' = ticksOf op cbop' s := by
  have hcond (cc : Cond) : s'.cond cc = s.cond cc := by cases cc <;> simp [State.cond, hs]
  rw [ticksOf, ticksOf, if_neg h, if_neg h, hcond]

/-- The opcode's fetch, with HALTBUG and without (rule R82). -/
theorem fetchOpcode_eq (s : State) :
    (fetchOpcode s).2 =
      State.onBus (readOps s.pc (s.bus.fetchByte s.pc))
        { s with haltBug := false, pc := if s.haltBug then s.pc else s.pc + 1, opaddr := s.pc } := by
  cases h : s.haltBug
  · simp [fetchOpcode_snd s h, h]
  · simp [fetchOpcode_snd_haltBug s h]

/-- A fetch of the escape runs the row of the byte that is fetched next. -/
theorem fetchExecute_escape {s : State} (h : s.bus.fetchByte s.pc = 0xCB) :
    let u := (fetchOpcode s).2
    fetchExecute s = exec (decodeCb (u.bus.fetchByte u.pc)) (fetch8 u).2 := by
  have hfetch : fetchInstr s = (.prefixCb, (fetchOpcode s).2) := by
    rw [fetchInstr, fetchOpcode_fst, h]
    rfl
  rw [fetchExecute, hfetch, exec_prefixCb, fetch8_fst]

/-- A fetch of another byte gets a whole instruction that begins with it. -/
theorem fetchInstr_row {s : State} (h : s.bus.fetchByte s.pc ≠ 0xCB) :
    (fetchInstr s).1.wellFormed = true ∧ ∃ rest, encode (fetchInstr s).1 = s.bus.fetchByte s.pc :: rest := by
  obtain ⟨rest, henc⟩ := List.head?_eq_some_iff.mp (encode_fetchInstr s).1
  refine ⟨?_, rest, henc⟩
  cases hw : (fetchInstr s).1.wellFormed with
  | true => rfl
  | false =>
    rw [Instr.eq_prefixCb_of_not_wellFormed _ hw] at henc
    exact absurd (List.head_eq_of_cons_eq henc).symm h

/-- A fetch and its execution take the ticks that the two bytes at PC give, the second of them read again at PC where HALTBUG
is set (rules R82, R231). -/
theorem fetchExecute_ticks {s t : State} (hcfg : s.cfg.bitHlTicks = .sixteen) (h : fetchExecute s = .next t) :
    let op := s.bus.fetchByte s.pc
    let second := (s.bus.replay (readOps s.pc op)).fetchByte (if s.haltBug then s.pc else s.pc + 1)
    t.cyc = s.cyc + ticksOf op second s := by
  intro op second
  by_cases hop : op = 0xCB
  · have hsecond : (fetchOpcode s).2.bus.fetchByte (fetchOpcode s).2.pc = second := by rw [fetchOpcode_eq]; rfl
    have hcyc : (fetch8 (fetchOpcode s).2).2.cyc = s.cyc + 8 := by simp [fetchOpcode_eq]
    rw [fetchExecute_escape hop, hsecond] at h
    have hticks := exec_ticks _ _ t (wellFormed_decodeCb second) (by simpa [fetchOpcode_eq] using hcfg) h
    have hentry : ticksOfInstr (decodeCb second) (fetch8 (fetchOpcode s).2).2 = ticksOf op second s := by
      rw [ticksOfInstr, encode_decodeCb, hop]
      rfl
    rw [hentry, encode_decodeCb, hcyc] at hticks
    simp at hticks
    omega
  · obtain ⟨pc, ops, hs, hops⟩ := fetchInstr_fetched s
    obtain ⟨hrow, rest, henc⟩ := fetchInstr_row hop
    have hticks := exec_ticks _ _ t hrow (by rw [hs]; exact hcfg) h
    have hentry : ticksOfInstr (fetchInstr s).1 (fetchInstr s).2 = ticksOf op second s := by
      rw [ticksOfInstr, henc, hs]
      exact ticksOf_congr hop rfl _ _
    have hcyc : (fetchInstr s).2.cyc = s.cyc + 4 * (encode (fetchInstr s).1).length := by simp [hs, hops]
    omega

/-- Settles O58: the entry takes 8 + 4 * 6 ticks and a halted step 4; a step that fetches takes the ticks of the bytes it
fetches, after 4 where it wakes. -/
theorem everyStepTakesTheTicksOfTheTable : Obligations.EveryStepTakesTheTicksOfTheTable := by
  intro s t hf hcfg h
  have hidle : s.cfg.haltIdleTicks = 4 := by rw [hcfg]; rfl
  refine ⟨fun it hi hit => ?_, fun hn v hb => ?_, fun u hb => ?_⟩
  · obtain ⟨hentry, hcyc, -⟩ := interruptEntryPushesPcAndGoesToTheVector s it hf hi hit
    cases hentry.symm.trans h
    rw [hcyc, hcfg]
    rfl
  · cases (step_finished s v hf hb).symm.trans h
    obtain ⟨it, hi, hit, -⟩ | ⟨-, -, ops, hb', hops⟩ | ⟨-, ops, hb', -⟩ := beforeFetch_cases s
    · simp [hn hi] at hit
    · cases hb.symm.trans hb'
      simp [hops, hidle]
    · cases hb.symm.trans hb'
  · obtain ⟨it, -, -, hb'⟩ | ⟨-, -, ops, hb', -⟩ | ⟨-, ops, hb', hops⟩ := beforeFetch_cases s
    · cases hb.symm.trans hb'
    · cases hb.symm.trans hb'
    · rw [hidle] at hops
      have hu : u = State.onBus ops { s.opened with halted := false } := by
        cases hb.symm.trans hb'
        rfl
      have hcyc : u.cyc = if s.halted then 4 else 0 := by simp [hu, hops]
      rw [← hcyc]
      refine fetchExecute_ticks ?_ ((step_fetching s u hf hb).symm.trans h)
      rw [hu]
      simp [hcfg, Config.default]

end Sys2Proof.Machine
end
